-- ==== Sys2Proof/Word.lean ====
section
/-! DEFINITION. The word types of the block: the 16-bit event word of one operation (spec/30_encoding.md R55) and the
byte, the width of its operand field, of the counters and of the output port (spec/10_state.md R10). -/

namespace Sys2Proof

/-- One event word: FAM in bits 15:12, OP in bits 11:8, ARG in bits 7:0 (R55). -/
abbrev EventWord := BitVec 16

/-- Eight bits: an ARG field, an 8-bit register, the output port. -/
abbrev Byte := BitVec 8

end Sys2Proof
end

