-- ==== Sys2Proof/Syntax.lean ====
section
/-! DEFINITION. The 33 operations of spec/30_encoding.md R61, one constructor per row of spec/opcode_table.json. An operand
is held as the ARG byte of its event word (R55); the bits its format requires to be 0 are checked in WellFormed.lean (R57).
The micro-steps need no operand: their index n is the row itself (R60). -/

namespace Sys2Proof

/-- One operation: an atomic state transition of one agent (R9, R61). -/
inductive Instr where
  /-- RST, environment: power-on or external reset (R156). -/
  | rst
  /-- DB.POLL lvl, host: one poll of the edge detector (R71). -/
  | dbPoll (lvl : Byte)
  /-- MUX.SCAN, host: one scan step (R76). -/
  | muxScan
  /-- MUX.DIG k, host: one digit of DisplayValue (R80). -/
  | muxDig (k : Byte)
  /-- TMR.START, host (R86). -/
  | tmrStart
  /-- TMR.STOP, host (R87). -/
  | tmrStop
  /-- TMR.MATCH, environment: one compare match (R88). -/
  | tmrMatch
  /-- ISR.TICK, handler (R91). -/
  | isrTick
  /-- EDGE.ENABLE, host (R94). -/
  | edgeEnable
  /-- PIN.INC lvl, environment: drives the increase button's line (R95). -/
  | pinInc (lvl : Byte)
  /-- PIN.DEC lvl, environment: drives the decrease button's line (R96). -/
  | pinDec (lvl : Byte)
  /-- ISR.INC, handler (R98). -/
  | isrInc
  /-- ISR.DEC, handler (R99). -/
  | isrDec
  /-- ADC.ARM, host (R104). -/
  | adcArm
  /-- ADC.EOC s, environment: a conversion completes with sample s (R105). -/
  | adcEoc (s : Byte)
  /-- ISR.ADC, handler (R106). -/
  | isrAdc
  /-- PIN.MODE lvl, environment: drives the mode button's line (R114). -/
  | pinMode (lvl : Byte)
  /-- M.POLL, micro-step 0 (R115). -/
  | mPoll
  /-- M.PRESS, micro-step 1 (R116). -/
  | mPress
  /-- M.SELECT, micro-step 2 (R117). -/
  | mSelect
  /-- M.AUTO.CMP, micro-step 3 (R118). -/
  | mAutoCmp
  /-- M.AUTO.CLR, micro-step 4 (R119). -/
  | mAutoClr
  /-- M.AUTO.ADV, micro-step 5 (R120). -/
  | mAutoAdv
  /-- M.ANA.ARM, micro-step 6 (R121). -/
  | mAnaArm
  /-- M.ANA.RD, micro-step 7 (R122). -/
  | mAnaRd
  /-- M.ANA.WR, micro-step 8 (R123). -/
  | mAnaWr
  /-- M.ANA.RD2, micro-step 9 (R124). -/
  | mAnaRd2
  /-- M.ANA.INC, micro-step 10 (R125). -/
  | mAnaInc
  /-- M.TRANS, micro-step 11 (R126 to R130). -/
  | mTrans
  /-- M.DIG.0, micro-step 12 (R131). -/
  | mDig0
  /-- M.DIG.1, micro-step 13 (R132). -/
  | mDig1
  /-- M.DIG.2, micro-step 14 (R133). -/
  | mDig2
  /-- M.DIG.3, micro-step 15 (R134). -/
  | mDig3
deriving DecidableEq, Repr

end Sys2Proof
end

