-- ==== Sys2Proof/WellFormed.lean ====
section
/-! DEFINITION. Which operations can be written as an event word: the bits of ARG that the format requires to be 0 are 0
(spec/30_encoding.md R57). Formats N, S and M leave nothing to check: an operation of format N or M has no operand, and
every byte is a sample (R59). -/

namespace Sys2Proof

/-- Format L: ARG[7:1] = 0, so the operand is one bit, the electrical level (R57, R58). -/
def isLevel (arg : Byte) : Bool := arg.toNat ≤ 1

/-- Format K: ARG[7:2] = 0, so the operand is a digit index 0 to 3 (R57, R59). -/
def isDigitIndex (arg : Byte) : Bool := arg.toNat ≤ 3

/-- The operand fits its format. -/
def Instr.wellFormed : Instr → Bool
  | .dbPoll lvl => isLevel lvl
  | .pinInc lvl => isLevel lvl
  | .pinDec lvl => isLevel lvl
  | .pinMode lvl => isLevel lvl
  | .muxDig k => isDigitIndex k
  | .adcEoc _ => true
  | .rst => true
  | .muxScan => true
  | .tmrStart => true
  | .tmrStop => true
  | .tmrMatch => true
  | .isrTick => true
  | .edgeEnable => true
  | .isrInc => true
  | .isrDec => true
  | .adcArm => true
  | .isrAdc => true
  | .mPoll => true
  | .mPress => true
  | .mSelect => true
  | .mAutoCmp => true
  | .mAutoClr => true
  | .mAutoAdv => true
  | .mAnaArm => true
  | .mAnaRd => true
  | .mAnaWr => true
  | .mAnaRd2 => true
  | .mAnaInc => true
  | .mTrans => true
  | .mDig0 => true
  | .mDig1 => true
  | .mDig2 => true
  | .mDig3 => true

end Sys2Proof
end

