-- ==== Sys2Proof/Decode.lean ====
section
/-! DEFINITION. Decoding and encoding of event words (spec/30_encoding.md R55 to R61, R65, R66). The decoder is total: it
looks up the opcode, checks the bits the format requires to be 0, and answers none for a reserved word. The encoder writes
the opcode before the ARG byte. -/

namespace Sys2Proof

/-- The opcode, {FAM, OP}: bits 15:8 (R55). -/
def opcodeField (w : EventWord) : Byte := w.extractLsb' 8 8

/-- ARG: bits 7:0 (R55). -/
def argField (w : EventWord) : Byte := w.extractLsb' 0 8

/-- Format N: ARG is 0 (R57). -/
def formN (i : Instr) (arg : Byte) : Option Instr := if arg = 0#8 then some i else none

/-- Format L: ARG is a level (R57). -/
def formL (op : Byte → Instr) (arg : Byte) : Option Instr := if isLevel arg then some (op arg) else none

/-- Format K: ARG is a digit index (R57). -/
def formK (op : Byte → Instr) (arg : Byte) : Option Instr := if isDigitIndex arg then some (op arg) else none

/-- Format S: every ARG is a sample (R57, R59). -/
def formS (op : Byte → Instr) (arg : Byte) : Option Instr := some (op arg)

/-- Format M: ARG is the index n of a micro-step, 0 to 15 (R57, R60). -/
def formM (arg : Byte) : Option Instr :=
  match arg.toNat with
  | 0 => some .mPoll
  | 1 => some .mPress
  | 2 => some .mSelect
  | 3 => some .mAutoCmp
  | 4 => some .mAutoClr
  | 5 => some .mAutoAdv
  | 6 => some .mAnaArm
  | 7 => some .mAnaRd
  | 8 => some .mAnaWr
  | 9 => some .mAnaRd2
  | 10 => some .mAnaInc
  | 11 => some .mTrans
  | 12 => some .mDig0
  | 13 => some .mDig1
  | 14 => some .mDig2
  | 15 => some .mDig3
  | _ => none

/-- The decoder of R61: the opcode, then the format's check; none is a reserved word (R65). -/
def decode (w : EventWord) : Option Instr :=
  match (opcodeField w).toNat with
  | 0x00 => formN .rst (argField w)
  | 0x10 => formL .dbPoll (argField w)
  | 0x20 => formN .muxScan (argField w)
  | 0x21 => formK .muxDig (argField w)
  | 0x30 => formN .tmrStart (argField w)
  | 0x31 => formN .tmrStop (argField w)
  | 0x32 => formN .tmrMatch (argField w)
  | 0x33 => formN .isrTick (argField w)
  | 0x40 => formN .edgeEnable (argField w)
  | 0x41 => formL .pinInc (argField w)
  | 0x42 => formL .pinDec (argField w)
  | 0x43 => formN .isrInc (argField w)
  | 0x44 => formN .isrDec (argField w)
  | 0x50 => formN .adcArm (argField w)
  | 0x51 => formS .adcEoc (argField w)
  | 0x52 => formN .isrAdc (argField w)
  | 0x60 => formL .pinMode (argField w)
  | 0x61 => formM (argField w)
  | _ => none

/-- The opcode of R61's row, bits 15:8 of W. -/
def Instr.opcode : Instr → Byte
  | .rst => 0x00#8
  | .dbPoll _ => 0x10#8
  | .muxScan => 0x20#8
  | .muxDig _ => 0x21#8
  | .tmrStart => 0x30#8
  | .tmrStop => 0x31#8
  | .tmrMatch => 0x32#8
  | .isrTick => 0x33#8
  | .edgeEnable => 0x40#8
  | .pinInc _ => 0x41#8
  | .pinDec _ => 0x42#8
  | .isrInc => 0x43#8
  | .isrDec => 0x44#8
  | .adcArm => 0x50#8
  | .adcEoc _ => 0x51#8
  | .isrAdc => 0x52#8
  | .pinMode _ => 0x60#8
  | .mPoll => 0x61#8
  | .mPress => 0x61#8
  | .mSelect => 0x61#8
  | .mAutoCmp => 0x61#8
  | .mAutoClr => 0x61#8
  | .mAutoAdv => 0x61#8
  | .mAnaArm => 0x61#8
  | .mAnaRd => 0x61#8
  | .mAnaWr => 0x61#8
  | .mAnaRd2 => 0x61#8
  | .mAnaInc => 0x61#8
  | .mTrans => 0x61#8
  | .mDig0 => 0x61#8
  | .mDig1 => 0x61#8
  | .mDig2 => 0x61#8
  | .mDig3 => 0x61#8

/-- The ARG byte: the operand, the micro-step's index, or 0 (R57). -/
def Instr.arg : Instr → Byte
  | .rst => 0x00#8
  | .dbPoll lvl => lvl
  | .muxScan => 0x00#8
  | .muxDig k => k
  | .tmrStart => 0x00#8
  | .tmrStop => 0x00#8
  | .tmrMatch => 0x00#8
  | .isrTick => 0x00#8
  | .edgeEnable => 0x00#8
  | .pinInc lvl => lvl
  | .pinDec lvl => lvl
  | .isrInc => 0x00#8
  | .isrDec => 0x00#8
  | .adcArm => 0x00#8
  | .adcEoc s => s
  | .isrAdc => 0x00#8
  | .pinMode lvl => lvl
  | .mPoll => 0x00#8
  | .mPress => 0x01#8
  | .mSelect => 0x02#8
  | .mAutoCmp => 0x03#8
  | .mAutoClr => 0x04#8
  | .mAutoAdv => 0x05#8
  | .mAnaArm => 0x06#8
  | .mAnaRd => 0x07#8
  | .mAnaWr => 0x08#8
  | .mAnaRd2 => 0x09#8
  | .mAnaInc => 0x0A#8
  | .mTrans => 0x0B#8
  | .mDig0 => 0x0C#8
  | .mDig1 => 0x0D#8
  | .mDig2 => 0x0E#8
  | .mDig3 => 0x0F#8

/-- The event word of an operation: its opcode in bits 15:8 and its ARG in bits 7:0 (R55). -/
def encode (i : Instr) : EventWord := i.opcode ++ i.arg

/-- One row of the opcode map: a mnemonic, the word with the operand bits at 0, and the bits that must match (R61). -/
structure OpcodeRow where
  mnemonic : String
  word : EventWord
  mask : EventWord
deriving DecidableEq, Repr

/-- The row of the opcode map an operation stands in (R61). -/
def Instr.row : Instr → OpcodeRow
  | .rst => ⟨"RST", 0x0000#16, 0xFFFF#16⟩
  | .dbPoll _ => ⟨"DB.POLL", 0x1000#16, 0xFFFE#16⟩
  | .muxScan => ⟨"MUX.SCAN", 0x2000#16, 0xFFFF#16⟩
  | .muxDig _ => ⟨"MUX.DIG", 0x2100#16, 0xFFFC#16⟩
  | .tmrStart => ⟨"TMR.START", 0x3000#16, 0xFFFF#16⟩
  | .tmrStop => ⟨"TMR.STOP", 0x3100#16, 0xFFFF#16⟩
  | .tmrMatch => ⟨"TMR.MATCH", 0x3200#16, 0xFFFF#16⟩
  | .isrTick => ⟨"ISR.TICK", 0x3300#16, 0xFFFF#16⟩
  | .edgeEnable => ⟨"EDGE.ENABLE", 0x4000#16, 0xFFFF#16⟩
  | .pinInc _ => ⟨"PIN.INC", 0x4100#16, 0xFFFE#16⟩
  | .pinDec _ => ⟨"PIN.DEC", 0x4200#16, 0xFFFE#16⟩
  | .isrInc => ⟨"ISR.INC", 0x4300#16, 0xFFFF#16⟩
  | .isrDec => ⟨"ISR.DEC", 0x4400#16, 0xFFFF#16⟩
  | .adcArm => ⟨"ADC.ARM", 0x5000#16, 0xFFFF#16⟩
  | .adcEoc _ => ⟨"ADC.EOC", 0x5100#16, 0xFF00#16⟩
  | .isrAdc => ⟨"ISR.ADC", 0x5200#16, 0xFFFF#16⟩
  | .pinMode _ => ⟨"PIN.MODE", 0x6000#16, 0xFFFE#16⟩
  | .mPoll => ⟨"M.POLL", 0x6100#16, 0xFFFF#16⟩
  | .mPress => ⟨"M.PRESS", 0x6101#16, 0xFFFF#16⟩
  | .mSelect => ⟨"M.SELECT", 0x6102#16, 0xFFFF#16⟩
  | .mAutoCmp => ⟨"M.AUTO.CMP", 0x6103#16, 0xFFFF#16⟩
  | .mAutoClr => ⟨"M.AUTO.CLR", 0x6104#16, 0xFFFF#16⟩
  | .mAutoAdv => ⟨"M.AUTO.ADV", 0x6105#16, 0xFFFF#16⟩
  | .mAnaArm => ⟨"M.ANA.ARM", 0x6106#16, 0xFFFF#16⟩
  | .mAnaRd => ⟨"M.ANA.RD", 0x6107#16, 0xFFFF#16⟩
  | .mAnaWr => ⟨"M.ANA.WR", 0x6108#16, 0xFFFF#16⟩
  | .mAnaRd2 => ⟨"M.ANA.RD2", 0x6109#16, 0xFFFF#16⟩
  | .mAnaInc => ⟨"M.ANA.INC", 0x610A#16, 0xFFFF#16⟩
  | .mTrans => ⟨"M.TRANS", 0x610B#16, 0xFFFF#16⟩
  | .mDig0 => ⟨"M.DIG.0", 0x610C#16, 0xFFFF#16⟩
  | .mDig1 => ⟨"M.DIG.1", 0x610D#16, 0xFFFF#16⟩
  | .mDig2 => ⟨"M.DIG.2", 0x610E#16, 0xFFFF#16⟩
  | .mDig3 => ⟨"M.DIG.3", 0x610F#16, 0xFFFF#16⟩

/-- The opcode map (R61). -/
def opcodeMap : List OpcodeRow := [
  ⟨"RST", 0x0000#16, 0xFFFF#16⟩,
  ⟨"DB.POLL", 0x1000#16, 0xFFFE#16⟩,
  ⟨"MUX.SCAN", 0x2000#16, 0xFFFF#16⟩,
  ⟨"MUX.DIG", 0x2100#16, 0xFFFC#16⟩,
  ⟨"TMR.START", 0x3000#16, 0xFFFF#16⟩,
  ⟨"TMR.STOP", 0x3100#16, 0xFFFF#16⟩,
  ⟨"TMR.MATCH", 0x3200#16, 0xFFFF#16⟩,
  ⟨"ISR.TICK", 0x3300#16, 0xFFFF#16⟩,
  ⟨"EDGE.ENABLE", 0x4000#16, 0xFFFF#16⟩,
  ⟨"PIN.INC", 0x4100#16, 0xFFFE#16⟩,
  ⟨"PIN.DEC", 0x4200#16, 0xFFFE#16⟩,
  ⟨"ISR.INC", 0x4300#16, 0xFFFF#16⟩,
  ⟨"ISR.DEC", 0x4400#16, 0xFFFF#16⟩,
  ⟨"ADC.ARM", 0x5000#16, 0xFFFF#16⟩,
  ⟨"ADC.EOC", 0x5100#16, 0xFF00#16⟩,
  ⟨"ISR.ADC", 0x5200#16, 0xFFFF#16⟩,
  ⟨"PIN.MODE", 0x6000#16, 0xFFFE#16⟩,
  ⟨"M.POLL", 0x6100#16, 0xFFFF#16⟩,
  ⟨"M.PRESS", 0x6101#16, 0xFFFF#16⟩,
  ⟨"M.SELECT", 0x6102#16, 0xFFFF#16⟩,
  ⟨"M.AUTO.CMP", 0x6103#16, 0xFFFF#16⟩,
  ⟨"M.AUTO.CLR", 0x6104#16, 0xFFFF#16⟩,
  ⟨"M.AUTO.ADV", 0x6105#16, 0xFFFF#16⟩,
  ⟨"M.ANA.ARM", 0x6106#16, 0xFFFF#16⟩,
  ⟨"M.ANA.RD", 0x6107#16, 0xFFFF#16⟩,
  ⟨"M.ANA.WR", 0x6108#16, 0xFFFF#16⟩,
  ⟨"M.ANA.RD2", 0x6109#16, 0xFFFF#16⟩,
  ⟨"M.ANA.INC", 0x610A#16, 0xFFFF#16⟩,
  ⟨"M.TRANS", 0x610B#16, 0xFFFF#16⟩,
  ⟨"M.DIG.0", 0x610C#16, 0xFFFF#16⟩,
  ⟨"M.DIG.1", 0x610D#16, 0xFFFF#16⟩,
  ⟨"M.DIG.2", 0x610E#16, 0xFFFF#16⟩,
  ⟨"M.DIG.3", 0x610F#16, 0xFFFF#16⟩]

/-- A word matches a row: the bits under the mask are the row's (R61). -/
def OpcodeRow.covers (r : OpcodeRow) (w : EventWord) : Bool := w &&& r.mask == r.word

/-- The host's view of the decoder: the operation read from an event word given as a number. There is one length, 16 bits
(R55, R66), so a longer number is no event word. -/
def decodeTableWord (nbits w : Nat) : Option Instr :=
  if nbits ≤ 16 ∧ w < 65536 then decode (BitVec.ofNat 16 w) else none

end Sys2Proof
end

