-- ==== Sys2Proof/Config.lean ====
section
/-! DEFINITION. The configuration record of spec/00_scope.md R6: the parameters the spec leaves open, as plain data, and
the free values. Every value of type Config is admissible by construction: DEC_INIT lies in [0,159], ANALOG_INIT in
[0,999], TICKW is at least 3, and how a record is read (Machine/Arith.lean) makes RESCALE satisfy R109 and SEG_ENCODE total
on the digits. What holds for every State therefore holds for every admissible choice of the open parameters. -/

namespace Sys2Proof

/-- TICK_CMP (R6, R118, D13): what "reaches a threshold (5 ticks)" means, TickCount = 5 or TickCount at least 5. -/
inductive TickCmp where
  | eq
  | ge
deriving DecidableEq, Repr

/-- RESCALE (R6, R107, R109): the spec's default, or another function given by its values at the samples 0, 1, 2, ... in
order. How a table is read stands in Machine/Arith.lean. -/
inductive RescaleFn where
  | nearest
  | table (values : List (BitVec 10))
deriving DecidableEq, Repr

/-- SEG_ENCODE (R6, R64, R81): the spec's default, binary-coded decimal, or another code given by the patterns of the
digits 0, 1, 2, ... in order. -/
inductive SegCode where
  | bcd
  | table (patterns : List (BitVec 4))
deriving DecidableEq, Repr

/-- The configuration record of one block (R6). No operation changes it. -/
structure Config where
  /-- DEC_INIT: what RST leaves in DecreaseCounter (R13, D3). -/
  decInit : Fin 160
  /-- ANALOG_INIT: what RST leaves in AnalogReading (R14, D4). -/
  analogInit : Fin 1000
  /-- PORT_INIT: what RST leaves in DisplayPort (R25, D5). -/
  portInit : Byte
  /-- TICKW, the width of TickCount, less its least value 3 (R6, R20, D13). -/
  tickWAbove3 : Nat
  tickCmp : TickCmp
  rescale : RescaleFn
  segEncode : SegCode
  /-- TIMER_COMPARE: the compare value of the hardware timer, which no rule reads (R6, R89). -/
  timerCompare : Nat
deriving DecidableEq, Repr

/-- The record State.reset takes: the one the spec's own programs assume unless they say otherwise
(spec/95_test_vectors.md part 3), with TICK_CMP = eq. DESIGN CHOICE, unsafe: the spec leaves DEC_INIT, ANALOG_INIT,
PORT_INIT, TICK_CMP and TIMER_COMPARE open; see notes/assumptions/3.md. -/
def Config.reference : Config where
  decInit := 159
  analogInit := 0
  portInit := 0xFF#8
  tickWAbove3 := 5
  tickCmp := .eq
  rescale := .nearest
  segEncode := .bcd
  timerCompare := 0

/-- Free bytes, numbered: the values RST draws for AdcData, t.i and t.j (R156, U7; DESIGN CHOICE, safe, notes/assumptions/5.md). Nothing
constrains them. -/
opaque Config.freeByte : Nat → Byte

/-- Free bits, numbered: the values RST draws for t.e and t.c (R156, U7; DESIGN CHOICE, safe, notes/assumptions/5.md). Nothing constrains
them. -/
opaque Config.freeBit : Nat → Bool

end Sys2Proof
end

