-- ==== Sys2Proof/Machine/Arith.lean ====
section
/-! DEFINITION. The seven arithmetic laws of spec/00_scope.md R8, on the values of registers: every one is total, none
leaves its declared range, none is signed. -/

namespace Sys2Proof.Machine

/-- CNT_MAX, the upper bound of the three counters (R6). -/
def cntMax : Nat := 159

/-- TICKS_PER_STEP, the threshold of the tick counter (R6, R118). -/
def ticksPerStep : Nat := 5

/-- Saturating increment, min(n + 1, 159) (R8, R98): the counter stops at 159. -/
def satInc (n : Byte) : Byte := if n.toNat < cntMax then n + 1#8 else BitVec.ofNat 8 cntMax

/-- Saturating decrement, max(n - 1, 0) (R8, R99): no borrow and no wrap to 255. -/
def satDec (n : Byte) : Byte := if n = 0#8 then 0#8 else n - 1#8

/-- Wrap modulo 4 of the scan index (R8, R76, R125). -/
def nextPosition (i : Byte) : Byte := BitVec.ofNat 8 ((i.toNat + 1) % 4)

/-- Wrap modulo 4 of the press counter (R8, R116). -/
def nextPress (p : BitVec 2) : BitVec 2 := BitVec.ofNat 2 ((p.toNat + 1) % 4)

/-- Wrap modulo 160 of the automatic counter (R8, R120). -/
def nextAuto (n : Byte) : Byte := BitVec.ofNat 8 ((n.toNat + 1) % 160)

/-- TICKW, the width of TickCount in bits, at least 3 (R6, R20). -/
def tickW (cfg : Config) : Nat := 3 + cfg.tickWAbove3

/-- Wrap modulo 2^TICKW of the tick counter (R8, R91). -/
def nextTick (cfg : Config) (n : Nat) : Nat := (n + 1) % 2 ^ tickW cfg

/-- Decimal decomposition: digit(k, v), thousands, hundreds, tens, units for k = 0 to 3 (R8, R79). -/
def digit (k : BitVec 2) (v : BitVec 10) : BitVec 4 :=
  BitVec.ofNat 4 <|
    match k.toNat with
    | 0 => v.toNat / 1000
    | 1 => v.toNat % 1000 / 100
    | 2 => v.toNat % 100 / 10
    | _ => v.toNat % 10

/-- The default RESCALE, s * 999 / 255 to the nearest integer (R107). -/
def rescaleNearest (s : Byte) : BitVec 10 := BitVec.ofNat 10 ((1998 * s.toNat + 255) / 510)

/-- RESCALE given by its values at the samples 0, 1, 2, ... (R109). The reading is admissible for every list: at sample s it
is the greatest of the values at the samples 1 to s, at most 999, and 0 at sample 0. Where the list is itself admissible
(256 values that start at 0, never fall and stay at most 999), the reading is the list's value at s. -/
def rescaleTable (values : List (BitVec 10)) (s : Byte) : BitVec 10 :=
  BitVec.ofNat 10 (min 999 (((values.drop 1).take s.toNat).foldl (fun m v => max m v.toNat) 0))

/-- RESCALE, the configuration function of the Analog Sampler (R8, R107). -/
def rescale (f : RescaleFn) (s : Byte) : BitVec 10 :=
  match f with
  | .nearest => rescaleNearest s
  | .table values => rescaleTable values s

end Sys2Proof.Machine
end

