-- ==== Sys2Proof/Machine/Flags.lean ====
section
/-! DEFINITION. The flag-like values of the block. It has no condition codes (spec/10_state.md R29, R31); what its
operations compute as one bit are the debouncer's edge, the tick threshold and the qualifying edge of a button line. -/

namespace Sys2Proof.Machine

/-- The logical level of an active-low line: 1 - lvl, pressed is logical 1 (R58, R71). -/
def logicalLevel (lvl : Bool) : Bool := !lvl

/-- The debouncer's result: the logical level went 0 to 1 (R71). -/
def risingEdge (prev cur : Bool) : Bool := !prev && cur

/-- The qualifying edge of an edge source: the electrical transition 1 to 0, the moment of pressing (R95 to R97). -/
def qualifyingEdge (old lvl : Bool) : Bool := old && !lvl

/-- The tick counter has reached the threshold, by the reading TICK_CMP names (R118). -/
def thresholdReached (c : TickCmp) (tickCount : Nat) : Bool :=
  match c with
  | .eq => tickCount == ticksPerStep
  | .ge => ticksPerStep ≤ tickCount

end Sys2Proof.Machine
end

