-- ==== Sys2Proof/Machine/State.lean ====
section
/-! DEFINITION. The state of the block: every register, pin and flag of spec/10_state.md R10, the port history, the
configuration record and the schedule, all plain data; the reasons a step can stop; the machine right after reset (R37). -/

namespace Sys2Proof.Machine

/-- The operating mode (R17). All four 2-bit values are legal, so the register is the enumeration. -/
inductive Mode where
  | auto
  | increase
  | decrease
  | analog
deriving DecidableEq, Repr

/-- The four interrupt sources (spec/60_exceptions.md R137). -/
inductive Source where
  | tick
  | inc
  | dec
  | adc
deriving DecidableEq, Repr

/-- Digits[0..3]: thousands, hundreds, tens, units (R16). -/
structure Digits where
  d0 : BitVec 4
  d1 : BitVec 4
  d2 : BitVec 4
  d3 : BitVec 4
deriving DecidableEq, Repr

/-- The architectural state (R10). A one-bit register is a Bool, true for 1; a pin holds the electrical level, true for 1,
released (R32). -/
structure State where
  /-- The configuration record (R6); no operation writes it. -/
  cfg : Config
  mode : Mode
  pressCount : BitVec 2
  autoCounter : Byte
  increaseCounter : Byte
  decreaseCounter : Byte
  analogReading : BitVec 10
  displayValue : BitVec 10
  digits : Digits
  scanIndex : Byte
  /-- TickCount, TICKW bits: a number below 2^TICKW (R20; DESIGN CHOICE, safe, notes/assumptions/19.md). -/
  tickCount : Nat
  btnPrev : Bool
  btnCur : Bool
  incEnabled : Bool
  decEnabled : Bool
  adcEnabled : Bool
  timerRunning : Bool
  pendTick : Bool
  pendInc : Bool
  pendDec : Bool
  pendAdc : Bool
  adcData : Byte
  displayPort : Byte
  /-- MainPC: the index of the main loop's next micro-step (R30). -/
  mainPC : BitVec 4
  /-- t.e: the result of the last poll (R31). -/
  te : Bool
  /-- t.c: the result of the last threshold compare (R31). -/
  tc : Bool
  /-- t.i: the scan index M.ANA.RD read (R31). -/
  ti : Byte
  /-- t.j: the scan index M.ANA.RD2 read (R31). -/
  tj : Byte
  modePin : Bool
  incPin : Bool
  decPin : Bool
  /-- PortTrace: every byte written to the port since RST, oldest first (R7, R42). Observation, not architectural state. -/
  portTrace : List Byte
  /-- The model's own field: the event words that the environment, the dispatcher and the host issue next, oldest first
  (R48; DESIGN CHOICE, safe, notes/assumptions/1.md). -/
  schedule : List EventWord
  /-- The model's own field: how many free values RST has drawn (DESIGN CHOICE, safe, notes/assumptions/5.md). -/
  draws : Nat
deriving DecidableEq, Repr

/-- Why the machine stops with a fault. The block has no failure path (R136), so nothing in the model raises one. -/
inductive Fault where
  /-- A hardware fault, "the only unrecoverable condition", which the spec puts out of scope (R5, R136, U3). Raised by
  nothing: it is no input of the model. Safe. -/
  | hardwareFault
deriving DecidableEq, Repr

/-- Why the model has no step, at its boundary: the spec's refuse (R7). A refusal changes no state. -/
inductive Refusal where
  /-- An operation that has no meaning yet, by its mnemonic. Raised by exec's refused arms only; there is none. Safe. -/
  | notModelled (mnemonic : String)
  /-- A reserved event word at the head of the schedule (R65, U13). Raised by step. Safe. -/
  | reservedWord (w : EventWord)
  /-- An operand whose must-be-zero bits are not zero (R57, R65). Raised by the operations of formats L and K; the decoder
  reads no such operation. Safe. -/
  | operandOutOfFormat
  /-- A handler offered while its pending flag is 0 (R56, R144, U14). Raised by the four handlers. Safe. -/
  | handlerNotPending (x : Source)
  /-- Micro-step n offered while MainPC is not n (R56, R60, U14). Raised by the sixteen micro-steps. Safe. -/
  | microStepNotNext (n : BitVec 4)
  /-- A register outside its declared range, a state no run from reset reaches (R84, D30, U15). Raised by every operation
  but RST. Safe. -/
  | stateOutOfRange
deriving DecidableEq, Repr

/-- The machine right after reset, for one configuration record (R37). The registers the table calls unspecified (AdcData,
t.e, t.c, t.i, t.j) are 0 here: DESIGN CHOICE, unsafe, notes/assumptions/4.md. The schedule is empty and no free value has
been drawn: DESIGN CHOICE, notes/assumptions/1.md and 5.md. -/
def State.resetWith (cfg : Config) : State where
  cfg := cfg
  mode := .auto
  pressCount := 0#2
  autoCounter := 0#8
  increaseCounter := 0#8
  decreaseCounter := BitVec.ofNat 8 cfg.decInit.val
  analogReading := BitVec.ofNat 10 cfg.analogInit.val
  displayValue := 0#10
  digits := ⟨0#4, 0#4, 0#4, 0#4⟩
  scanIndex := 0#8
  tickCount := 0
  btnPrev := false
  btnCur := false
  incEnabled := false
  decEnabled := false
  adcEnabled := false
  timerRunning := false
  pendTick := false
  pendInc := false
  pendDec := false
  pendAdc := false
  adcData := 0#8
  displayPort := cfg.portInit
  mainPC := 0#4
  te := false
  tc := false
  ti := 0#8
  tj := 0#8
  modePin := true
  incPin := true
  decPin := true
  portTrace := []
  schedule := []
  draws := 0

/-- The machine right after reset, with the reference configuration record (R37; DESIGN CHOICE, unsafe, notes/assumptions/3.md). -/
def State.reset : State := State.resetWith Config.reference

end Sys2Proof.Machine
end

