-- ==== Sys2Proof/Machine/Operands.lean ====
section
/-! DEFINITION. The operand forms of spec/30_encoding.md R57 to R60 and the value encodings of R62 to R64: levels, digit
indices, samples, the number of a mode, the enable lines, the digit pattern and the port byte. -/

namespace Sys2Proof.Machine

/-- Format L: the electrical level lvl, true for 1 (R58); none where a must-be-zero bit is set. -/
def levelOperand (arg : Byte) : Option Bool := if isLevel arg then some (arg == 1#8) else none

/-- Format K: the digit index k (R59); none where a must-be-zero bit is set. -/
def digitOperand (arg : Byte) : Option (BitVec 2) := if isDigitIndex arg then some (arg.setWidth 2) else none

/-- Format S: the sample s is the ARG byte (R59). -/
def sampleOperand (arg : Byte) : Byte := arg

/-- The number of a mode: Auto 0, Increase 1, Decrease 2, Analog 3 (R17, R62). -/
def Mode.code : Mode → BitVec 2
  | .auto => 0#2
  | .increase => 1#2
  | .decrease => 2#2
  | .analog => 3#2

/-- Digits[k] (R7, R16). -/
def Digits.get (ds : Digits) (k : BitVec 2) : BitVec 4 :=
  match k.toNat with
  | 0 => ds.d0
  | 1 => ds.d1
  | 2 => ds.d2
  | _ => ds.d3

/-- Digits[k] <- d: one element, the other three kept (R16). -/
def Digits.set (ds : Digits) (k : BitVec 2) (d : BitVec 4) : Digits :=
  match k.toNat with
  | 0 => { ds with d0 := d }
  | 1 => { ds with d1 := d }
  | 2 => { ds with d2 := d }
  | _ => { ds with d3 := d }

/-- EN[3:0] with position i selected: 0xF xor (1 << i), one line low (R63). -/
def enableLines (i : BitVec 2) : BitVec 4 := 0xF#4 ^^^ (1#4 <<< i.toNat)

/-- SEG_ENCODE(d), the 4-bit pattern of a digit (R64, R81). A table shorter than ten patterns gives the digits past its end
their binary code, so every list is total on the digits. -/
def segPattern (c : SegCode) (d : BitVec 4) : BitVec 4 :=
  match c with
  | .bcd => d
  | .table patterns => patterns.getD d.toNat d

/-- port_byte(i, d) = EN before SEG: EN in bits 7:4, SEG in bits 3:0 (R25, R77). -/
def portByte (c : SegCode) (i : BitVec 2) (d : BitVec 4) : Byte := enableLines i ++ segPattern c d

end Sys2Proof.Machine
end

