-- ==== Sys2Proof/Machine/Ops.lean ====
section
/-! DEFINITION. The named operations over the registers: the port and pin accesses of spec/20_memory.md R42, the pending
flags, the scan step, the range check of R84, the dispatch of a handler with its return (spec/60_exceptions.md R144 to
R148), the frame of a micro-step (R60, R113), and the fetch of the next event word from the schedule. There is no memory
(R40), so there is no operation over one. -/

namespace Sys2Proof.Machine

/-- What one operation of this machine answers. -/
abbrev Answer := Host.Outcome State Fault Refusal

/-- Every register lies in its declared range (R10, R35): the ranges whose breach U15 refuses, and TickCount below 2^TICKW
(R20). -/
def State.inRange (s : State) : Bool :=
  s.autoCounter.toNat ≤ 159 && s.increaseCounter.toNat ≤ 159 && s.decreaseCounter.toNat ≤ 159
    && s.analogReading.toNat ≤ 999 && s.displayValue.toNat ≤ 999
    && s.digits.d0.toNat ≤ 9 && s.digits.d1.toNat ≤ 9 && s.digits.d2.toNat ≤ 9 && s.digits.d3.toNat ≤ 9
    && s.scanIndex.toNat ≤ 3 && decide (s.tickCount < 2 ^ tickW s.cfg)

/-- A state outside the declared ranges is refused; otherwise the operation answers (R84, D30; DESIGN CHOICE, safe, notes/assumptions/8.md). -/
def guarded (s : State) (answer : Answer) : Answer :=
  if s.inRange then answer else .refused .stateOutOfRange

/-- Runs an operation of format L on its level (R58). -/
def withLevel (arg : Byte) (op : Bool → State) : Answer :=
  match levelOperand arg with
  | some lvl => .next (op lvl)
  | none => .refused .operandOutOfFormat

/-- PinRead(ModePin): the level last driven, with no side effect (R42). -/
def State.readModePin (s : State) : Bool := s.modePin

/-- PortWrite(b): all 8 bits of DisplayPort in one write, appended to PortTrace (R7, R42). -/
def State.portWrite (s : State) (b : Byte) : State :=
  { s with displayPort := b, portTrace := s.portTrace ++ [b] }

/-- The position a scan index names; the index is 0 to 3 wherever this is used (R19). -/
def position (i : Byte) : BitVec 2 := i.setWidth 2

/-- Lights position i: PortWrite(port_byte(i, Digits[i])) (R76, R123). -/
def State.light (s : State) (i : Byte) : State :=
  s.portWrite (portByte s.cfg.segEncode (position i) (s.digits.get (position i)))

/-- The scan step MUX.SCAN: lights the position ScanIndex names, then advances ScanIndex modulo 4 (R76). -/
def State.scanStep (s : State) : State :=
  { s.light s.scanIndex with scanIndex := nextPosition s.scanIndex }

/-- The debouncer's poll: the samples move on and the result is the rising edge of the samples just written, left in t.e
(R31, R69, R71; DEDUCED, unsafe, notes/assumptions/7.md). -/
def State.debounce (s : State) (lvl : Bool) : State :=
  { s with
    btnPrev := s.btnCur
    btnCur := logicalLevel lvl
    te := risingEdge s.btnCur (logicalLevel lvl) }

/-- Digits[k] <- digit(k, DisplayValue) (R80, R131 to R134). -/
def State.writeDigit (s : State) (k : BitVec 2) : State :=
  { s with digits := s.digits.set k (digit k s.displayValue) }

/-- EDGE.ENABLE: both edge sources are enabled; no pending flag changes (R94). -/
def State.enableEdges (s : State) : State := { s with incEnabled := true, decEnabled := true }

/-- ADC.ARM: the sampler is enabled; AdcData and its pending flag are kept (R104). -/
def State.armAdc (s : State) : State := { s with adcEnabled := true }

/-- The enable bit of a source (R137). -/
def State.enabled (s : State) : Source → Bool
  | .tick => s.timerRunning
  | .inc => s.incEnabled
  | .dec => s.decEnabled
  | .adc => s.adcEnabled

/-- The pending flag of a source (R26 to R28, R137). -/
def State.pending (s : State) : Source → Bool
  | .tick => s.pendTick
  | .inc => s.pendInc
  | .dec => s.pendDec
  | .adc => s.pendAdc

/-- Sets the pending flag of a source. -/
def State.setPending (s : State) : Source → State
  | .tick => { s with pendTick := true }
  | .inc => { s with pendInc := true }
  | .dec => { s with pendDec := true }
  | .adc => { s with pendAdc := true }

/-- Clears the pending flag of a source. -/
def State.clearPending (s : State) : Source → State
  | .tick => { s with pendTick := false }
  | .inc => { s with pendInc := false }
  | .dec => { s with pendDec := false }
  | .adc => { s with pendAdc := false }

/-- A hardware event at a source: it sets the pending flag if the source is enabled; a flag already set stays set, and an
event at a disabled source is not latched (R88, R95, R96, R105, R138 to R141). -/
def State.latch (s : State) (x : Source) (event : Bool) : State :=
  if event && s.enabled x then s.setPending x else s

/-- Return from a handler: nothing was saved that a rule can see, so nothing is restored; MainPC and the temporaries are as
they were (R145, R148). -/
def State.handlerReturn (s : State) : State := s

/-- Taking an interrupt (R144, R145): a handler may run exactly when its pending flag is 1, the enable bit is not tested
again; the dispatch clears the flag, the body runs as one atomic operation and returns to the micro-step it preempted. -/
def takeInterrupt (x : Source) (body : State → State) (s : State) : Answer :=
  guarded s <|
    if s.pending x then .next (body (s.clearPending x)).handlerReturn else .refused (.handlerNotPending x)

/-- Micro-step n of the main loop: it runs only when MainPC = n (R56, R60); its body writes its registers and the index of
its successor (R113). -/
def microStep (n : BitVec 4) (body : State → State) (s : State) : Answer :=
  guarded s <|
    if s.mainPC = n then .next (body s) else .refused (.microStepNotNext n)

/-- MainPC <- n (R7, R30). -/
def State.goto (s : State) (n : BitVec 4) : State := { s with mainPC := n }

/-- The event word of the main loop's micro-step n: 0x6100 + n (R60). -/
def microWord (n : BitVec 4) : EventWord := 0x610#12 ++ n

/-- The next event word and the state with it taken off the schedule (R48). With an empty schedule the main loop takes its
next micro-step: it is a busy-poll that never waits (R155, R159; DESIGN CHOICE, safe, notes/assumptions/1.md). -/
def State.fetch (s : State) : EventWord × State :=
  match s.schedule with
  | w :: rest => (w, { s with schedule := rest })
  | [] => (microWord s.mainPC, s)

/-- Makes an operation one that may stand next, as far as R56 asks it: a handler's pending flag is set, MainPC is the
micro-step's index. Used to place an operation from outside (DESIGN CHOICE, safe, notes/assumptions/2.md), by no operation. -/
def State.makeNext (s : State) (w : EventWord) : State :=
  match w.toNat with
  | 0x3300 => s.setPending .tick
  | 0x4300 => s.setPending .inc
  | 0x4400 => s.setPending .dec
  | 0x5200 => s.setPending .adc
  | _ => if w.extractLsb' 4 12 = 0x610#12 then s.goto (w.extractLsb' 0 4) else s

end Sys2Proof.Machine
end

