-- ==== Sys2Proof/Machine/AnalogSampler.lean ====
section
/-! DEFINITION. The meanings of ADC.ARM, ADC.EOC and ISR.ADC (spec/44_analog_sampler.md R104 to R106). -/

namespace Sys2Proof.Machine

/-- ADC.ARM (R104). -/
def execAdcArm (s : State) : Answer := guarded s (.next s.armAdc)

/-- A completed conversion at an enabled sampler: the sample overwrites AdcData and is pending; a disabled sampler completes
nothing (R105). -/
def State.complete (s : State) (sample : Byte) : State :=
  if s.adcEnabled then { s.latch .adc true with adcData := sample } else s

/-- ADC.EOC s (R105). -/
def execAdcEoc (sample : Byte) (s : State) : Answer := guarded s (.next (s.complete (sampleOperand sample)))

/-- The body of ISR.ADC: AnalogReading takes the rescaled sample; no scan step, no display register (R106, R110). -/
def adcBody (s : State) : State := { s with analogReading := rescale s.cfg.rescale s.adcData }

/-- ISR.ADC (R106). -/
def execIsrAdc (s : State) : Answer := takeInterrupt .adc adcBody s

end Sys2Proof.Machine
end

