-- ==== Sys2Proof/Machine/Debouncer.lean ====
section
/-! DEFINITION. The meaning of DB.POLL (spec/40_debouncer.md R71). -/

namespace Sys2Proof.Machine

/-- DB.POLL lvl: the electrical level is inverted and sampled, the result is the 0 to 1 edge (R71). -/
def execDbPoll (lvl : Byte) (s : State) : Answer := guarded s (withLevel lvl s.debounce)

end Sys2Proof.Machine
end

