-- ==== Sys2Proof/Machine/DisplayMux.lean ====
section
/-! DEFINITION. The meanings of MUX.SCAN and MUX.DIG (spec/41_display_mux.md R76, R80). -/

namespace Sys2Proof.Machine

/-- MUX.SCAN: one scan step as one atomic operation (R76). -/
def execMuxScan (s : State) : Answer := guarded s (.next s.scanStep)

/-- MUX.DIG k: one digit of DisplayValue into Digits[k] (R80). -/
def execMuxDig (k : Byte) (s : State) : Answer :=
  guarded s <|
    match digitOperand k with
    | some i => .next (s.writeDigit i)
    | none => .refused .operandOutOfFormat

end Sys2Proof.Machine
end

