-- ==== Sys2Proof/Machine/EdgeCounters.lean ====
section
/-! DEFINITION. The meanings of EDGE.ENABLE, PIN.INC, PIN.DEC, ISR.INC and ISR.DEC (spec/43_edge_counters.md R94 to R99). -/

namespace Sys2Proof.Machine

/-- EDGE.ENABLE (R94). -/
def execEdgeEnable (s : State) : Answer := guarded s (.next s.enableEdges)

/-- PIN.INC lvl: the line takes the level; the qualifying edge is pending if the source is enabled (R95). -/
def execPinInc (lvl : Byte) (s : State) : Answer :=
  guarded s (withLevel lvl fun l => { s.latch .inc (qualifyingEdge s.incPin l) with incPin := l })

/-- PIN.DEC lvl: as PIN.INC, on the decrease button's line (R96). -/
def execPinDec (lvl : Byte) (s : State) : Answer :=
  guarded s (withLevel lvl fun l => { s.latch .dec (qualifyingEdge s.decPin l) with decPin := l })

/-- The body of ISR.INC: the counter saturates at 159, then one scan step, in every mode (R98, R101). -/
def incBody (s : State) : State :=
  State.scanStep { s with increaseCounter := satInc s.increaseCounter }

/-- ISR.INC (R98). -/
def execIsrInc (s : State) : Answer := takeInterrupt .inc incBody s

/-- The body of ISR.DEC: the counter saturates at 0, then one scan step, in every mode (R99, R101). -/
def decBody (s : State) : State :=
  State.scanStep { s with decreaseCounter := satDec s.decreaseCounter }

/-- ISR.DEC (R99). -/
def execIsrDec (s : State) : Answer := takeInterrupt .dec decBody s

end Sys2Proof.Machine
end

