-- ==== Sys2Proof/Machine/ModeController.lean ====
section
/-! DEFINITION. The meanings of PIN.MODE and of the sixteen micro-steps of the main loop (spec/45_mode_controller.md R114 to
R134). -/

namespace Sys2Proof.Machine

/-- PIN.MODE lvl: the mode button's line takes the level; it is only polled (R114). -/
def execPinMode (lvl : Byte) (s : State) : Answer :=
  guarded s (withLevel lvl fun l => { s with modePin := l })

/-- M.POLL, micro-step 0: t.e <- DB.POLL(PinRead(ModePin)) (R115). -/
def execMPoll (s : State) : Answer :=
  microStep 0#4 (fun s => (s.debounce s.readModePin).goto 1#4) s

/-- The press is counted modulo 4 if the poll saw an edge (R116). -/
def State.countPress (s : State) : State :=
  if s.te then { s with pressCount := nextPress s.pressCount } else s

/-- M.PRESS, micro-step 1 (R116). -/
def execMPress (s : State) : Answer := microStep 1#4 (fun s => s.countPress.goto 2#4) s

/-- The active mode's value source, widened to 10 bits (R117). -/
def State.valueSource (s : State) : BitVec 10 :=
  match s.mode with
  | .auto => s.autoCounter.setWidth 10
  | .increase => s.increaseCounter.setWidth 10
  | .decrease => s.decreaseCounter.setWidth 10
  | .analog => s.analogReading

/-- The successor of M.SELECT: the mode's own substep, or M.TRANS where the mode has none (R113, R117). -/
def afterSelect : Mode → BitVec 4
  | .auto => 3#4
  | .increase => 11#4
  | .decrease => 11#4
  | .analog => 6#4

/-- M.SELECT, micro-step 2: DisplayValue takes the active mode's source (R117). -/
def execMSelect (s : State) : Answer :=
  microStep 2#4 (fun s => State.goto { s with displayValue := s.valueSource } (afterSelect s.mode)) s

/-- M.AUTO.CMP, micro-step 3: t.c is whether the tick counter has reached the threshold (R118). -/
def execMAutoCmp (s : State) : Answer :=
  microStep 3#4 (fun s => State.goto { s with tc := thresholdReached s.cfg.tickCmp s.tickCount } 4#4) s

/-- M.AUTO.CLR, micro-step 4: the tick counter is cleared if t.c is 1 (R119). -/
def execMAutoClr (s : State) : Answer :=
  microStep 4#4 (fun s => State.goto { s with tickCount := if s.tc then 0 else s.tickCount } 5#4) s

/-- M.AUTO.ADV, micro-step 5: the automatic counter advances modulo 160 if t.c is 1 (R120). -/
def execMAutoAdv (s : State) : Answer :=
  microStep 5#4
    (fun s => State.goto { s with autoCounter := if s.tc then nextAuto s.autoCounter else s.autoCounter } 11#4) s

/-- M.ANA.ARM, micro-step 6: re-arms the sampler (R121). -/
def execMAnaArm (s : State) : Answer := microStep 6#4 (fun s => s.armAdc.goto 7#4) s

/-- M.ANA.RD, micro-step 7: t.i <- ScanIndex (R122). -/
def execMAnaRd (s : State) : Answer := microStep 7#4 (fun s => State.goto { s with ti := s.scanIndex } 8#4) s

/-- M.ANA.WR, micro-step 8: lights the position t.i names, with Digits[t.i] as it is now (R123). There is no Digits[t.i] for
a t.i above 3, which no run from reset reaches here: refused (R31, R84; DESIGN CHOICE, safe, notes/assumptions/9.md). -/
def execMAnaWr (s : State) : Answer :=
  guarded s <|
    if s.mainPC = 8#4 then
      if s.ti.toNat ≤ 3 then .next ((s.light s.ti).goto 9#4) else .refused .stateOutOfRange
    else .refused (.microStepNotNext 8#4)

/-- M.ANA.RD2, micro-step 9: t.j <- ScanIndex (R124). -/
def execMAnaRd2 (s : State) : Answer := microStep 9#4 (fun s => State.goto { s with tj := s.scanIndex } 10#4) s

/-- M.ANA.INC, micro-step 10: ScanIndex <- (t.j + 1) mod 4 (R125). -/
def execMAnaInc (s : State) : Answer :=
  microStep 10#4 (fun s => State.goto { s with scanIndex := nextPosition s.tj } 11#4) s

/-- The transition table: each state compares PressCount with its own threshold; the entry actions are EDGE.ENABLE, none,
ADC.ARM and AutoCounter <- 0 (R111, R126 to R130). -/
def State.transition (s : State) : State :=
  match s.mode with
  | .auto => if s.pressCount = 1#2 then { s.enableEdges with mode := .increase } else s
  | .increase => if s.pressCount = 2#2 then { s with mode := .decrease } else s
  | .decrease => if s.pressCount = 3#2 then { s.armAdc with mode := .analog } else s
  | .analog => if s.pressCount = 0#2 then { s with mode := .auto, autoCounter := 0#8 } else s

/-- M.TRANS, micro-step 11 (R126). -/
def execMTrans (s : State) : Answer := microStep 11#4 (fun s => s.transition.goto 12#4) s

/-- M.DIG.0, micro-step 12 (R131). -/
def execMDig0 (s : State) : Answer := microStep 12#4 (fun s => (s.writeDigit 0#2).goto 13#4) s

/-- M.DIG.1, micro-step 13 (R132). -/
def execMDig1 (s : State) : Answer := microStep 13#4 (fun s => (s.writeDigit 1#2).goto 14#4) s

/-- M.DIG.2, micro-step 14 (R133). -/
def execMDig2 (s : State) : Answer := microStep 14#4 (fun s => (s.writeDigit 2#2).goto 15#4) s

/-- M.DIG.3, micro-step 15: the end of the iteration (R134). -/
def execMDig3 (s : State) : Answer := microStep 15#4 (fun s => (s.writeDigit 3#2).goto 0#4) s

end Sys2Proof.Machine
end

