-- ==== Sys2Proof/Machine/Reset.lean ====
section
/-! DEFINITION. The meaning of RST (spec/70_reset_and_hazards.md R156). -/

namespace Sys2Proof.Machine

/-- RST: every register takes the value of R37's table, from any state and at any point. AdcData, t.e, t.c, t.i and t.j are
unspecified: each takes a free value of its own (U7; DESIGN CHOICE, safe, notes/assumptions/5.md). The configuration record and the rest of the
schedule are not the block's registers and stay (DESIGN CHOICE, safe, notes/assumptions/22.md). -/
def execRst (s : State) : Answer :=
  .next
    { s with
      mode := .auto
      pressCount := 0#2
      autoCounter := 0#8
      increaseCounter := 0#8
      decreaseCounter := BitVec.ofNat 8 s.cfg.decInit.val
      analogReading := BitVec.ofNat 10 s.cfg.analogInit.val
      displayValue := 0#10
      digits := ⟨0#4, 0#4, 0#4, 0#4⟩
      scanIndex := 0#8
      tickCount := 0
      btnPrev := false
      btnCur := false
      incEnabled := false
      decEnabled := false
      adcEnabled := false
      timerRunning := false
      pendTick := false
      pendInc := false
      pendDec := false
      pendAdc := false
      displayPort := s.cfg.portInit
      mainPC := 0#4
      adcData := Config.freeByte s.draws
      ti := Config.freeByte (s.draws + 1)
      tj := Config.freeByte (s.draws + 2)
      te := Config.freeBit s.draws
      tc := Config.freeBit (s.draws + 1)
      modePin := true
      incPin := true
      decPin := true
      portTrace := []
      draws := s.draws + 3 }

end Sys2Proof.Machine
end

