-- ==== Sys2Proof/Machine/TickTimer.lean ====
section
/-! DEFINITION. The meanings of TMR.START, TMR.STOP, TMR.MATCH and ISR.TICK (spec/42_tick_timer.md R86 to R91). -/

namespace Sys2Proof.Machine

/-- TMR.START: the timer counts; nothing else changes (R86). -/
def execTmrStart (s : State) : Answer := guarded s (.next { s with timerRunning := true })

/-- TMR.STOP: the timer stands still; a pending match and TickCount are kept (R87). -/
def execTmrStop (s : State) : Answer := guarded s (.next { s with timerRunning := false })

/-- TMR.MATCH: a compare match, pending if the timer runs (R88). -/
def execTmrMatch (s : State) : Answer := guarded s (.next (s.latch .tick true))

/-- The body of ISR.TICK: the scan step, then TickCount + 1 modulo 2^TICKW, in every mode (R91). -/
def tickBody (s : State) : State :=
  { s.scanStep with tickCount := nextTick s.cfg s.tickCount }

/-- ISR.TICK (R91). -/
def execIsrTick (s : State) : Answer := takeInterrupt .tick tickBody s

end Sys2Proof.Machine
end

