-- ==== Sys2Proof/Machine/Dispatch.lean ====
section
/-! DEFINITION. One arm per operation: each calls its meaning. -/

namespace Sys2Proof.Machine

def exec (i : Instr) (s : State) : Host.Outcome State Fault Refusal :=
  match i with
  | .rst => Sys2Proof.Machine.execRst s
  | .dbPoll lvl => Sys2Proof.Machine.execDbPoll lvl s
  | .muxScan => Sys2Proof.Machine.execMuxScan s
  | .muxDig k => Sys2Proof.Machine.execMuxDig k s
  | .tmrStart => Sys2Proof.Machine.execTmrStart s
  | .tmrStop => Sys2Proof.Machine.execTmrStop s
  | .tmrMatch => Sys2Proof.Machine.execTmrMatch s
  | .isrTick => Sys2Proof.Machine.execIsrTick s
  | .edgeEnable => Sys2Proof.Machine.execEdgeEnable s
  | .pinInc lvl => Sys2Proof.Machine.execPinInc lvl s
  | .pinDec lvl => Sys2Proof.Machine.execPinDec lvl s
  | .isrInc => Sys2Proof.Machine.execIsrInc s
  | .isrDec => Sys2Proof.Machine.execIsrDec s
  | .adcArm => Sys2Proof.Machine.execAdcArm s
  | .adcEoc sample => Sys2Proof.Machine.execAdcEoc sample s
  | .isrAdc => Sys2Proof.Machine.execIsrAdc s
  | .pinMode lvl => Sys2Proof.Machine.execPinMode lvl s
  | .mPoll => Sys2Proof.Machine.execMPoll s
  | .mPress => Sys2Proof.Machine.execMPress s
  | .mSelect => Sys2Proof.Machine.execMSelect s
  | .mAutoCmp => Sys2Proof.Machine.execMAutoCmp s
  | .mAutoClr => Sys2Proof.Machine.execMAutoClr s
  | .mAutoAdv => Sys2Proof.Machine.execMAutoAdv s
  | .mAnaArm => Sys2Proof.Machine.execMAnaArm s
  | .mAnaRd => Sys2Proof.Machine.execMAnaRd s
  | .mAnaWr => Sys2Proof.Machine.execMAnaWr s
  | .mAnaRd2 => Sys2Proof.Machine.execMAnaRd2 s
  | .mAnaInc => Sys2Proof.Machine.execMAnaInc s
  | .mTrans => Sys2Proof.Machine.execMTrans s
  | .mDig0 => Sys2Proof.Machine.execMDig0 s
  | .mDig1 => Sys2Proof.Machine.execMDig1 s
  | .mDig2 => Sys2Proof.Machine.execMDig2 s
  | .mDig3 => Sys2Proof.Machine.execMDig3 s

end Sys2Proof.Machine
end

