-- ==== Sys2Proof/Machine/Step.lean ====
section
/-! DEFINITION. One step: the next event word of the interleaving is taken, decoded and run (spec/20_memory.md R48,
spec/30_encoding.md R61, R65). -/

namespace Sys2Proof.Machine

/-- One operation of the interleaving. The word comes from the schedule or, where that is empty, is the main loop's next
micro-step; a reserved word is refused (R48, R65). -/
def step (s : State) : Host.Outcome State Fault Refusal :=
  match decode s.fetch.1 with
  | some i => exec i s.fetch.2
  | none => .refused (.reservedWord s.fetch.1)

/-- Places an event word so that the very next step takes it: at the head of the schedule, with what R56 asks of the state
for the operation to stand next, a handler's pending flag or the micro-step's MainPC (DESIGN CHOICE, safe, notes/assumptions/2.md). An event
word has 16 bits, so nbits tells nothing more. -/
def State.withFetchWord (s : State) (_nbits w : Nat) : State :=
  { s.makeNext (BitVec.ofNat 16 w) with schedule := BitVec.ofNat 16 w :: s.schedule }

end Sys2Proof.Machine
end

