-- ==== Sys2Proof/Safety.lean ====
section
/-! DEFINITION. What counts as a safe run of the block, and the words its statements use: who may issue an operation
(spec/30_encoding.md R56), the invariants of spec/10_state.md R35 and R36 and of spec/60_exceptions.md R144 in the form a
step keeps, what a scan step shows, and sequences of operations. -/

namespace Sys2Proof.Machine

/-- The agent classes of R56; a handler is named by its source, a micro-step by its index. -/
inductive AgentClass where
  | env
  | isr (x : Source)
  | prim
  | micro (n : BitVec 4)
deriving DecidableEq, Repr

/-- The agent class of an operation, fixed by its opcode (R56). -/
def agentClass : Instr → AgentClass
  | .rst => .env
  | .pinMode _ => .env
  | .pinInc _ => .env
  | .pinDec _ => .env
  | .tmrMatch => .env
  | .adcEoc _ => .env
  | .isrTick => .isr .tick
  | .isrInc => .isr .inc
  | .isrDec => .isr .dec
  | .isrAdc => .isr .adc
  | .dbPoll _ => .prim
  | .muxScan => .prim
  | .muxDig _ => .prim
  | .tmrStart => .prim
  | .tmrStop => .prim
  | .edgeEnable => .prim
  | .adcArm => .prim
  | .mPoll => .micro 0#4
  | .mPress => .micro 1#4
  | .mSelect => .micro 2#4
  | .mAutoCmp => .micro 3#4
  | .mAutoClr => .micro 4#4
  | .mAutoAdv => .micro 5#4
  | .mAnaArm => .micro 6#4
  | .mAnaRd => .micro 7#4
  | .mAnaWr => .micro 8#4
  | .mAnaRd2 => .micro 9#4
  | .mAnaInc => .micro 10#4
  | .mTrans => .micro 11#4
  | .mDig0 => .micro 12#4
  | .mDig1 => .micro 13#4
  | .mDig2 => .micro 14#4
  | .mDig3 => .micro 15#4

/-- When an operation may be the next one (R56): an environment event or a component call always, a handler when its flag is
1, a micro-step when MainPC is its index. -/
def enabledIn (i : Instr) (s : State) : Bool :=
  match agentClass i with
  | .env => true
  | .prim => true
  | .isr x => s.pending x
  | .micro n => s.mainPC == n

/-- The handler of a source (R137). -/
def handlerOf : Source → Instr
  | .tick => .isrTick
  | .inc => .isrInc
  | .dec => .isrDec
  | .adc => .isrAdc

/-- The successor of micro-step n in R113's table; at n = 2 it depends on the mode. -/
def successor (n : BitVec 4) (m : Mode) : BitVec 4 :=
  match n.toNat, m with
  | 2, .auto => 3#4
  | 2, .increase => 11#4
  | 2, .decrease => 11#4
  | 2, .analog => 6#4
  | 5, _ => 11#4
  | 15, _ => 0#4
  | _, _ => n + 1#4

/-- Lockstep (R36): PressCount is the number of the mode, but between M.PRESS and M.TRANS it may be one ahead modulo 4. -/
def State.lockstep (s : State) : Prop :=
  if 2 ≤ s.mainPC.toNat ∧ s.mainPC.toNat ≤ 11
  then s.pressCount = s.mode.code ∨ s.pressCount = s.mode.code + 1#2
  else s.pressCount = s.mode.code

/-- A substep is run in its own mode only (R113, R118 to R125). -/
def State.substepInMode (s : State) : Prop :=
  (3 ≤ s.mainPC.toNat → s.mainPC.toNat ≤ 5 → s.mode = .auto)
    ∧ (6 ≤ s.mainPC.toNat → s.mainPC.toNat ≤ 10 → s.mode = .analog)

/-- The scan-index temporaries hold 0 to 3 where the next micro-step reads them (R31). -/
def State.tempsInRange (s : State) : Prop :=
  (s.mainPC = 8#4 → s.ti.toNat ≤ 3) ∧ (s.mainPC = 10#4 → s.tj.toNat ≤ 3)

/-- The invariant of the main loop: ranges, lockstep, substeps and temporaries together (R31, R35, R36). -/
def State.mainLoopSound (s : State) : Prop :=
  s.inRange = true ∧ s.lockstep ∧ s.substepInMode ∧ s.tempsInRange

/-- The digits are those of DisplayValue wherever they have been recomputed since the last M.SELECT, all four of them at
MainPC 0, 1 and 2 (R35's last clause at iteration boundaries; spec/90_conflicts.md C7). -/
def State.digitsCoherent (s : State) : Prop :=
  ∀ k : BitVec 2, (s.mainPC.toNat ≤ 2 ∨ 12 + k.toNat < s.mainPC.toNat) → s.digits.get k = digit k s.displayValue

/-- The sources are armed where the document says so: an edge or conversion pending was latched by an enabled source (R144),
the edge sources are enabled whenever the mode is not Auto (R22, R127), the sampler whenever it is Analog (R23, R129). -/
def State.sourcesArmed (s : State) : Prop :=
  (s.pendInc = true → s.incEnabled = true) ∧ (s.pendDec = true → s.decEnabled = true)
    ∧ (s.pendAdc = true → s.adcEnabled = true)
    ∧ (s.mode ≠ .auto → s.incEnabled = true ∧ s.decEnabled = true)
    ∧ (s.mode = .analog → s.adcEnabled = true)

/-- Exactly one of the four enable lines of a port byte is low (R63, R77). -/
def oneEnableLow (b : Byte) : Prop :=
  ∃ i < 4, ∀ k < 4, b.getLsbD (4 + k) = decide (k ≠ i)

/-- Every byte written to the port has exactly one enable line low, and the port holds the last byte written (R42, R51). -/
def State.portSound (s : State) : Prop :=
  (∀ b ∈ s.portTrace, oneEnableLow b) ∧ (∀ b, s.portTrace.getLast? = some b → s.displayPort = b)

/-- The scan steps since reset have lit the positions 0, 1, 2, 3, 0, 1, ... in order and ScanIndex names the next one
(R82). -/
def State.scanInOrder (s : State) : Prop :=
  s.scanIndex.toNat = s.portTrace.length % 4
    ∧ ∀ j b, s.portTrace[j]? = some b → ∀ k < 4, b.getLsbD (4 + k) = decide (k ≠ j % 4)

/-- A port byte that lights position i with the digit the state holds for it (R77): enable line i low, the other three high,
the digit's pattern in the low nibble. -/
def shows (s : State) (i : Nat) (b : Byte) : Prop :=
  (∀ k < 4, b.getLsbD (4 + k) = decide (k ≠ i))
    ∧ b.extractLsb' 0 4 = segPattern s.cfg.segEncode (s.digits.get (BitVec.ofNat 2 i))

/-- From s to t one scan step was made (R76): the position ScanIndex named is shown, the byte is appended to the history and
ScanIndex is advanced modulo 4. -/
def scanned (s t : State) : Prop :=
  shows s s.scanIndex.toNat t.displayPort
    ∧ t.portTrace = s.portTrace ++ [t.displayPort]
    ∧ t.scanIndex.toNat = (s.scanIndex.toNat + 1) % 4

/-- A sequence of operations of one interleaving (R48): the state after the last one, none where one of them has no step. -/
def execAll : List Instr → State → Option State
  | [], s => some s
  | i :: rest, s =>
    match exec i s with
    | .next t => execAll rest t
    | .fault _ => none
    | .refused _ => none

/-- m runs of the handler of x, its flag set before each (R102). -/
def serveTimes (x : Source) : Nat → State → Option State
  | 0, s => some s
  | m + 1, s =>
    match exec (handlerOf x) (s.setPending x) with
    | .next t => serveTimes x m t
    | .fault _ => none
    | .refused _ => none

/-- The results of a sequence of polls, in order, none where one of them has no step (R73). -/
def pollResults : List Byte → State → Option (List Bool)
  | [], _ => some []
  | lvl :: rest, s =>
    match exec (.dbPoll lvl) s with
    | .next t => (pollResults rest t).map (t.te :: ·)
    | .fault _ => none
    | .refused _ => none

/-- How many places of a sequence of electrical levels, polled after the logical level prev, have logical level 1 after
logical level 0 (R73). -/
def risingEdges (prev : Bool) : List Byte → Nat
  | [] => 0
  | lvl :: rest =>
    (if prev = false ∧ lvl = 0#8 then 1 else 0) + risingEdges (decide (lvl = 0#8)) rest

/-- The number of micro-steps of one iteration of the main loop (R68, R113). -/
def iterationLength : Mode → Nat
  | .auto => 11
  | .increase => 8
  | .decrease => 8
  | .analog => 13

/-- k micro-steps of the main loop on its own, from an empty schedule; none where one of them has no step. -/
def runMain (k : Nat) (s : State) : Option State :=
  match Host.Core.run Sys2Proof.core k { s with schedule := [] } with
  | .next t => some t
  | .fault _ => none
  | .refused _ => none

/-- One round of the Auto cadence: TMR.MATCH comes after some micro-steps, ISR.TICK after some more, and before the round ends,
at MainPC 0, the main loop finishes the iteration the dispatch fell into and completes one whole one or more. -/
structure TickRound where
  /-- Micro-steps before TMR.MATCH. -/
  before : Nat
  /-- Micro-steps between TMR.MATCH and ISR.TICK. -/
  latency : Nat
  /-- Whole iterations after the dispatch, beyond the one every round has. -/
  more : Nat
deriving DecidableEq, Repr

/-- The micro-steps after the dispatch, for a round that starts at MainPC 0 in Auto mode (R113). -/
def TickRound.rest (r : TickRound) : Nat :=
  let used := (r.before + r.latency) % iterationLength .auto
  (if used = 0 then 0 else iterationLength .auto - used) + iterationLength .auto * (r.more + 1)

/-- The rounds of a list, one after the other; ⟨0, 0, 0⟩ is TICK; MAIN.ITER (R68). -/
def tickRounds : List TickRound → State → Option State
  | [], s => some s
  | r :: rs, s =>
    ((((runMain r.before s).bind (execAll [.tmrMatch])).bind (runMain r.latency)).bind (execAll [.isrTick])).bind fun t =>
      (runMain r.rest t).bind (tickRounds rs)

/-- Two states that differ at most in AdcData and the temporaries, and there only where no rule reads them before it writes
them: AdcData while no conversion is pending, t.e but before M.PRESS, t.c but in the Auto substep, t.i but before M.ANA.WR,
t.j but before M.ANA.INC (R29, R31, U7). -/
def sameButDead (s s' : State) : Prop :=
  s' = { s with adcData := s'.adcData, te := s'.te, tc := s'.tc, ti := s'.ti, tj := s'.tj }
    ∧ (s.pendAdc = true → s'.adcData = s.adcData)
    ∧ (s.mainPC = 1#4 → s'.te = s.te)
    ∧ (s.mainPC = 4#4 ∨ s.mainPC = 5#4 → s'.tc = s.tc)
    ∧ (s.mainPC = 8#4 → s'.ti = s.ti)
    ∧ (s.mainPC = 10#4 → s'.tj = s.tj)

end Sys2Proof.Machine
end

