-- ==== Sys2Proof/Certificates/Slice0/Obligations.lean ====
section
/-! DEFINITION. The statements for the provers. In all of them the hypothesis s.inRange says that every register lies in
the range spec/10_state.md R10 declares for it (R84 gives no step to another state); an equation
t = { s with r := t.r, ... } says that every register not named there is unchanged, the port history, the configuration
record and the schedule included. The block has no memory (R40). -/

open Sys2Proof Sys2Proof.Machine

/-! ### Encoding -/

/-- Decoding the encoding of a well-formed operation gives the operation back, with every operand at every value its format
admits (R55, R57, R61). -/
def Obligations.DecodeEncodeRoundTrip : Prop :=
  ∀ i : Instr, i.wellFormed = true → decode (encode i) = some i

/-- An event word that decodes is the encoding of a well-formed operation: no bit of a word is dropped (R55, R57). -/
def Obligations.EncodeDecodeRoundTrip : Prop :=
  ∀ (w : EventWord) (i : Instr), decode w = some i → i.wellFormed = true ∧ encode i = w

/-- Words written out from the opcode map, one or more of each family, decode to the operations they stand for. -/
def Obligations.WordsOfTheOpcodeMapDecode : Prop :=
  decode 0x0000#16 = some .rst ∧ decode 0x1000#16 = some (.dbPoll 0#8) ∧ decode 0x2103#16 = some (.muxDig 3#8)
    ∧ decode 0x3300#16 = some .isrTick ∧ decode 0x4201#16 = some (.pinDec 1#8)
    ∧ decode 0x51FF#16 = some (.adcEoc 255#8) ∧ decode 0x6001#16 = some (.pinMode 1#8)
    ∧ decode 0x610A#16 = some .mAnaInc

/-- R65: a word that no row of the opcode map covers is refused, wherever it stands in the interleaving; the words of the
families 7 to 15, those of an opcode that no row lists and the rule's examples of a bit set where the format requires 0 are
such words; a word that a row covers is an operation of that row. -/
def Obligations.ReservedWordsAreRefused : Prop :=
  (∀ (s : State) (w : EventWord) (rest : List EventWord), s.schedule = w :: rest →
      (∀ r ∈ opcodeMap, r.covers w = false) → step s = .refused (.reservedWord w))
    ∧ (∀ (w : EventWord) (r : OpcodeRow), r ∈ opcodeMap → r.covers w = true →
      ∃ i, decode w = some i ∧ i.row = r)
    ∧ (∀ w : EventWord, 0x7000 ≤ w.toNat → ∀ r ∈ opcodeMap, r.covers w = false)
    ∧ (∀ w : EventWord, (∀ r ∈ opcodeMap, w.extractLsb' 8 8 ≠ r.word.extractLsb' 8 8) →
      ∀ r ∈ opcodeMap, r.covers w = false)
    ∧ (∀ w ∈ [0x1002#16, 0x2104#16, 0x6110#16, 0x3001#16], ∀ r ∈ opcodeMap, r.covers w = false)

/-! ### The step -/

/-- A step runs the operation its event word decodes to, on the state with the word taken off the schedule; with an empty
schedule the word is that of the micro-step MainPC names (the model's choice, notes/assumptions/1.md). -/
def Obligations.StepRunsTheDecodedOperation : Prop :=
  (∀ (s : State) (w : EventWord) (rest : List EventWord) (i : Instr), s.schedule = w :: rest → decode w = some i →
      step s = exec i { s with schedule := rest })
    ∧ (∀ (s : State) (i : Instr), s.schedule = [] → decode (0x6100#16 + s.mainPC.setWidth 16) = some i →
      step s = exec i s)

/-- No step ends in a fault: the block has no failure path. -/
def Obligations.NoStepFaults : Prop :=
  ∀ (s : State) (r : Fault), step s ≠ .fault r

/-- A state with a register outside its declared range is refused by every operation but RST, whatever the operation; the
ranges are those of R10 (the model's reading of D30, notes/assumptions/8.md). -/
def Obligations.OutOfRangeStatesAreRefused : Prop :=
  (∀ (i : Instr) (s : State), i ≠ .rst → s.inRange = false → exec i s = .refused .stateOutOfRange)
    ∧ ∀ s : State, s.inRange = true ↔
      s.autoCounter.toNat ≤ 159 ∧ s.increaseCounter.toNat ≤ 159 ∧ s.decreaseCounter.toNat ≤ 159
        ∧ s.analogReading.toNat ≤ 999 ∧ s.displayValue.toNat ≤ 999
        ∧ (∀ k : BitVec 2, (s.digits.get k).toNat ≤ 9) ∧ s.scanIndex.toNat ≤ 3
        ∧ s.tickCount < 2 ^ (3 + s.cfg.tickWAbove3)

/-- R56: an operation whose enabling condition holds has a step, one whose condition is false is refused: environment events
and component calls always run, a handler runs exactly when its flag is 1, a micro-step exactly when MainPC is its index.
(M.ANA.WR with a t.i above 3, which no run from reset reaches, is left to MicroStepsFollowTheIterationTable.) -/
def Obligations.OperationsRunExactlyWhenEnabled : Prop :=
  ∀ (i : Instr) (s : State), i.wellFormed = true → s.inRange = true → (i = .mAnaWr → s.ti.toNat ≤ 3) →
    (enabledIn i s = true → ∃ t, exec i s = .next t) ∧ (enabledIn i s = false → ∃ r, exec i s = .refused r)

/-- An operation whose operand has a bit set where its format requires 0 is the decoding of no event word (R57, R65), and exec
refuses it. That exec, given such an operation all the same, refuses it is the model's choice (notes/assumptions/11.md): no
word leads there, so no rule speaks of it. -/
def Obligations.OperandsOutOfFormatAreRefused : Prop :=
  ∀ (i : Instr) (s : State), s.inRange = true → i.wellFormed = false →
    exec i s = .refused .operandOutOfFormat ∧ ∀ w : EventWord, decode w ≠ some i

/-- An event word placed from outside runs in the very next step (the model's choice of how an operation is placed,
notes/assumptions/2.md): a step from a state in range with the word placed is the operation's, and it answers a next state. -/
def Obligations.PlacedWordsRunNext : Prop :=
  ∀ (w : EventWord) (i : Instr) (s : State), s.inRange = true → decode w = some i → (i = .mAnaWr → s.ti.toNat ≤ 3) →
    step (s.withFetchWord 16 w.toNat) = exec i { s.withFetchWord 16 w.toNat with schedule := s.schedule }
      ∧ ∃ t, step (s.withFetchWord 16 w.toNat) = .next t

/-- R60 with R113's table: the word 0x6100 + n names micro-step n, which runs only when MainPC = n and then leaves the index
of its successor; otherwise it is refused. M.ANA.WR has no digit to show for a t.i above 3 and is refused there
(notes/assumptions/9.md). -/
def Obligations.MicroStepsFollowTheIterationTable : Prop :=
  ∀ (n : BitVec 4) (s : State), s.inRange = true →
    ∃ i, decode (0x6100#16 + n.setWidth 16) = some i ∧
      if s.mainPC = n then
        (if n = 8#4 ∧ 3 < s.ti.toNat then exec i s = .refused .stateOutOfRange
         else ∃ t, exec i s = .next t ∧ t.mainPC = successor n s.mode)
      else exec i s = .refused (.microStepNotNext n)

/-- The main loop never waits: from every state the invariant admits, with nothing else scheduled, there is a next step (that
an empty schedule lets the main loop go on is the model's choice, notes/assumptions/1.md). -/
def Obligations.MainLoopNeverWaits : Prop :=
  ∀ s : State, s.mainLoopSound → s.schedule = [] → ∃ t, step s = .next t

/-! ### Debouncer -/

/-- DB.POLL: the samples move on, the result is 1 exactly when the logical level went 0 to 1, that is when the old BtnCur is
0 and the electrical level is 0 (pressed). That the result of the stand-alone call is left in t.e is the model's reading
(notes/assumptions/7.md). -/
def Obligations.DbPollReportsTheRisingEdge : Prop :=
  (∀ lvl : Byte, lvl.toNat ≤ 1 → decode (0x1000#16 ||| lvl.setWidth 16) = some (.dbPoll lvl))
    ∧ ∀ (lvl : Byte) (s : State), lvl.toNat ≤ 1 → s.inRange = true →
      exec (.dbPoll lvl) s = .next { s with
        btnPrev := s.btnCur
        btnCur := decide (lvl = 0#8)
        te := decide (s.btnCur = false ∧ lvl = 0#8) }

/-- Over every sequence of polls the number of results equal to 1 is the number of places where the logical level goes from
0 to 1, and two results equal to 1 are never adjacent. That each result of the stand-alone DB.POLL is read from t.e is the
model's reading (notes/assumptions/7.md). -/
def Obligations.PollsCountRisingEdges : Prop :=
  ∀ (lvls : List Byte) (s : State), s.inRange = true → (∀ l ∈ lvls, l.toNat ≤ 1) →
    ∃ rs, pollResults lvls s = some rs ∧ rs.length = lvls.length ∧ rs.count true = risingEdges s.btnCur lvls
      ∧ ∀ j, rs[j]? = some true → rs[j + 1]? ≠ some true

/-! ### Display Multiplexer -/

/-- R76, R77: MUX.SCAN writes one whole port byte, with exactly the enable line of ScanIndex low and the pattern of
Digits[ScanIndex], and advances ScanIndex, 3 to 0; it reads nothing else and writes nothing else. Under the default
SEG_ENCODE the byte is 0xE0, 0xD0, 0xB0 or 0x70 plus the digit. -/
def Obligations.MuxScanLightsAndAdvances : Prop :=
  decode 0x2000#16 = some .muxScan ∧
  ∀ s : State, s.inRange = true →
    ∃ t, exec .muxScan s = .next t ∧ scanned s t
      ∧ t = { s with displayPort := t.displayPort, portTrace := t.portTrace, scanIndex := t.scanIndex }
      ∧ (s.cfg.segEncode = .bcd →
        (s.scanIndex = 0#8 → t.displayPort.toNat = 0xE0 + s.digits.d0.toNat)
          ∧ (s.scanIndex = 1#8 → t.displayPort.toNat = 0xD0 + s.digits.d1.toNat)
          ∧ (s.scanIndex = 2#8 → t.displayPort.toNat = 0xB0 + s.digits.d2.toNat)
          ∧ (s.scanIndex = 3#8 → t.displayPort.toNat = 0x70 + s.digits.d3.toNat))

/-- R80: MUX.DIG k writes digit(k, DisplayValue) into Digits[k], k = 0 thousands to 3 units, and nothing else. -/
def Obligations.MuxDigWritesOneDigit : Prop :=
  (∀ k : Byte, k.toNat ≤ 3 → decode (0x2100#16 ||| k.setWidth 16) = some (.muxDig k)) ∧
  ∀ s : State, s.inRange = true →
    ∃ ds : BitVec 2 → Digits,
      (∀ k : BitVec 2, exec (.muxDig (k.setWidth 8)) s = .next { s with digits := ds k })
      ∧ (ds 0#2).d0.toNat = s.displayValue.toNat / 1000
      ∧ (ds 1#2).d1.toNat = s.displayValue.toNat % 1000 / 100
      ∧ (ds 2#2).d2.toNat = s.displayValue.toNat % 100 / 10
      ∧ (ds 3#2).d3.toNat = s.displayValue.toNat % 10
      ∧ ds 0#2 = { s.digits with d0 := (ds 0#2).d0 } ∧ ds 1#2 = { s.digits with d1 := (ds 1#2).d1 }
      ∧ ds 2#2 = { s.digits with d2 := (ds 2#2).d2 } ∧ ds 3#2 = { s.digits with d3 := (ds 3#2).d3 }
      ∧ (ds 0#2).d0 = 0#4

/-- R79: the decomposition function and its law: for every v in [0,999] the digits are in [0,9], the thousands digit is 0 and
the digits recompose v. -/
def Obligations.DigitsRecomposeTheValue : Prop :=
  ∀ v : BitVec 10, v.toNat ≤ 999 →
    (digit 0#2 v).toNat = v.toNat / 1000 ∧ (digit 1#2 v).toNat = v.toNat % 1000 / 100
      ∧ (digit 2#2 v).toNat = v.toNat % 100 / 10 ∧ (digit 3#2 v).toNat = v.toNat % 10
      ∧ (digit 0#2 v).toNat * 1000 + (digit 1#2 v).toNat * 100 + (digit 2#2 v).toNat * 10 + (digit 3#2 v).toNat = v.toNat
      ∧ (∀ k : BitVec 2, (digit k v).toNat ≤ 9) ∧ (digit 0#2 v).toNat = 0

/-- The scan order: whatever operations run, but for the main loop's split scan (M.ANA.WR, M.ANA.INC), the scan steps light
the positions 0, 1, 2, 3, 0, 1, ... and ScanIndex names the next one. -/
def Obligations.ScanOrderIsKept : Prop :=
  ∀ (i : Instr) (s t : State), i ≠ .mAnaWr → i ≠ .mAnaInc → s.scanInOrder → exec i s = .next t → t.scanInOrder

/-- Every byte a step writes to the port has exactly one enable line low, and the port holds the last byte written. -/
def Obligations.PortBytesKeepOneEnableLow : Prop :=
  ∀ s t : State, s.portSound → step s = .next t → t.portSound

/-! ### Tick Timer -/

/-- R86, R87: TMR.START and TMR.STOP set and clear TimerRunning, change nothing else (a pending match and TickCount
are kept) and are idempotent; a match after a start is pending, a match after a stop changes nothing. -/
def Obligations.TimerStartAndStop : Prop :=
  decode 0x3000#16 = some .tmrStart ∧ decode 0x3100#16 = some .tmrStop ∧
  ∀ s : State, s.inRange = true →
    exec .tmrStart s = .next { s with timerRunning := true }
      ∧ exec .tmrStop s = .next { s with timerRunning := false }
      ∧ (s.timerRunning = true → exec .tmrStart s = .next s)
      ∧ (s.timerRunning = false → exec .tmrStop s = .next s ∧ exec .tmrMatch s = .next s)
      ∧ execAll [.tmrStart, .tmrMatch] s = some { s with timerRunning := true, pendTick := true }
      ∧ execAll [.tmrStop, .tmrMatch] s = some { s with timerRunning := false }

/-- R88: TMR.MATCH sets Pend.TICK if the timer runs and otherwise does nothing; a flag already set stays set. -/
def Obligations.TimerMatchIsLatched : Prop :=
  decode 0x3200#16 = some .tmrMatch ∧
  ∀ s : State, s.inRange = true →
    (s.timerRunning = true → exec .tmrMatch s = .next { s with pendTick := true })
      ∧ (s.timerRunning = false → exec .tmrMatch s = .next s)

/-- R91: ISR.TICK, when Pend.TICK is 1, clears the flag, makes one scan step and counts the tick modulo 2^TICKW, in every mode;
nothing else changes, AutoCounter included. -/
def Obligations.IsrTickScansAndCounts : Prop :=
  decode 0x3300#16 = some .isrTick ∧
  ∀ s : State, s.inRange = true →
    (s.pendTick = true → ∃ t, exec .isrTick s = .next t ∧ t.pendTick = false ∧ scanned s t
      ∧ t.tickCount = (s.tickCount + 1) % 2 ^ (3 + s.cfg.tickWAbove3)
      ∧ t = { s with pendTick := t.pendTick, displayPort := t.displayPort, portTrace := t.portTrace,
                     scanIndex := t.scanIndex, tickCount := t.tickCount })
    ∧ (s.pendTick = false → exec .isrTick s = .refused (.handlerNotPending .tick))

/-- A tick serviced between M.AUTO.CMP, which saw the threshold, and M.AUTO.CLR is erased by the clear: at TickCount 5 under
either TICK_CMP, and at any TickCount of 5 or more under ge. AutoCounter still advances by one. A second tick already
pending at the compare makes no difference. -/
def Obligations.TickBetweenCompareAndClearIsErased : Prop :=
  ∀ s : State, s.inRange = true → s.mainPC = 3#4 →
    (s.tickCount = 5 ∨ (s.cfg.tickCmp = .ge ∧ 5 ≤ s.tickCount)) → s.timerRunning = true →
    ∃ t, execAll [.mAutoCmp, .tmrMatch, .isrTick, .mAutoClr, .mAutoAdv] s = some t
      ∧ t.tickCount = 0 ∧ t.autoCounter.toNat = (s.autoCounter.toNat + 1) % 160 ∧ t.mainPC = 11#4

/-- Two ticks serviced between two compares step past the threshold: with TickCount 4 the next compare reads 6, so under eq the
substep does nothing, and under ge it clears the counter and advances AutoCounter once for the six ticks. F2 (R174) allows
this: the pending tick may have been matched a whole iteration ago and be dispatched only now, before the next match. -/
def Obligations.TwoTicksBetweenComparesPassTheThreshold : Prop :=
  ∀ s : State, s.inRange = true → s.mainPC = 3#4 → s.tickCount = 4 → s.timerRunning = true → s.pendTick = true →
    ∃ t, execAll [.isrTick, .tmrMatch, .isrTick, .mAutoCmp, .mAutoClr, .mAutoAdv] s = some t ∧ t.mainPC = 11#4
      ∧ (s.cfg.tickCmp = .eq → t.tickCount = 6 ∧ t.autoCounter = s.autoCounter)
      ∧ (s.cfg.tickCmp = .ge → t.tickCount = 0 ∧ t.autoCounter.toNat = (s.autoCounter.toNat + 1) % 160)

/-! ### Edge Counters -/

/-- R94: EDGE.ENABLE sets both enables and nothing else; no pending flag changes; a second one changes nothing. -/
def Obligations.EdgeEnableSetsBothEnables : Prop :=
  decode 0x4000#16 = some .edgeEnable ∧
  ∀ s : State, s.inRange = true →
    exec .edgeEnable s = .next { s with incEnabled := true, decEnabled := true }
      ∧ (s.incEnabled = true → s.decEnabled = true → exec .edgeEnable s = .next s)

/-- R95, R96: PIN.INC and PIN.DEC drive their line; the transition 1 to 0 sets the pending flag if the source is enabled; no
other transition does, and a flag already set stays set. -/
def Obligations.PinEdgesAreLatched : Prop :=
  (∀ lvl : Byte, lvl.toNat ≤ 1 → decode (0x4100#16 ||| lvl.setWidth 16) = some (.pinInc lvl)
      ∧ decode (0x4200#16 ||| lvl.setWidth 16) = some (.pinDec lvl)) ∧
  ∀ s : State, s.inRange = true →
    exec (.pinInc 1#8) s = .next { s with incPin := true }
      ∧ exec (.pinInc 0#8) s = .next { s with
          incPin := false
          pendInc := decide (s.pendInc = true ∨ (s.incPin = true ∧ s.incEnabled = true)) }
      ∧ exec (.pinDec 1#8) s = .next { s with decPin := true }
      ∧ exec (.pinDec 0#8) s = .next { s with
          decPin := false
          pendDec := decide (s.pendDec = true ∨ (s.decPin = true ∧ s.decEnabled = true)) }

/-- R98: ISR.INC, when Pend.INC is 1, clears the flag, leaves min(n + 1, 159) in IncreaseCounter and makes one scan step, which
shows the digit as the main loop last computed it; nothing else changes. -/
def Obligations.IsrIncSaturatesAndScans : Prop :=
  decode 0x4300#16 = some .isrInc ∧
  ∀ s : State, s.inRange = true →
    (s.pendInc = true → ∃ t, exec .isrInc s = .next t ∧ t.pendInc = false
      ∧ t.increaseCounter.toNat = min (s.increaseCounter.toNat + 1) 159 ∧ scanned s t
      ∧ t = { s with pendInc := t.pendInc, increaseCounter := t.increaseCounter, displayPort := t.displayPort,
                     portTrace := t.portTrace, scanIndex := t.scanIndex })
    ∧ (s.pendInc = false → exec .isrInc s = .refused (.handlerNotPending .inc))

/-- R99: ISR.DEC, when Pend.DEC is 1, clears the flag, leaves max(n - 1, 0) in DecreaseCounter, with no wrap to 255, and makes
one scan step; nothing else changes. -/
def Obligations.IsrDecSaturatesAndScans : Prop :=
  decode 0x4400#16 = some .isrDec ∧
  ∀ s : State, s.inRange = true →
    (s.pendDec = true → ∃ t, exec .isrDec s = .next t ∧ t.pendDec = false
      ∧ (t.decreaseCounter.toNat : Int) = max ((s.decreaseCounter.toNat : Int) - 1) 0 ∧ scanned s t
      ∧ t = { s with pendDec := t.pendDec, decreaseCounter := t.decreaseCounter, displayPort := t.displayPort,
                     portTrace := t.portTrace, scanIndex := t.scanIndex })
    ∧ (s.pendDec = false → exec .isrDec s = .refused (.handlerNotPending .dec))

/-- Saturation over any number of runs: after m runs of ISR.INC the counter is min(n + m, 159), after m runs of ISR.DEC it is
max(n - m, 0), and each run has advanced the scan by one position. -/
def Obligations.SaturationOverManyRuns : Prop :=
  ∀ (m : Nat) (s : State), s.inRange = true →
    (∃ t, serveTimes .inc m s = some t ∧ t.increaseCounter.toNat = min (s.increaseCounter.toNat + m) 159
        ∧ t.decreaseCounter = s.decreaseCounter ∧ t.scanIndex.toNat = (s.scanIndex.toNat + m) % 4)
      ∧ ∃ t, serveTimes .dec m s = some t
        ∧ (t.decreaseCounter.toNat : Int) = max ((s.decreaseCounter.toNat : Int) - m) 0
        ∧ t.increaseCounter = s.increaseCounter ∧ t.scanIndex.toNat = (s.scanIndex.toNat + m) % 4

/-- Events of one source before one dispatch merge into one handler run, after which the handler is refused: two presses of
the increase button count once, two presses of the decrease button count once, two compare matches are one tick, and of
two conversions only the later sample is read. -/
def Obligations.PressesBeforeOneDispatchMerge : Prop :=
  ∀ s : State, s.inRange = true →
    (s.incEnabled = true → s.incPin = true →
      ∃ t, execAll [.pinInc 0#8, .pinInc 1#8, .pinInc 0#8, .isrInc] s = some t
        ∧ t.increaseCounter.toNat = min (s.increaseCounter.toNat + 1) 159
        ∧ exec .isrInc t = .refused (.handlerNotPending .inc))
    ∧ (s.decEnabled = true → s.decPin = true →
      ∃ t, execAll [.pinDec 0#8, .pinDec 1#8, .pinDec 0#8, .isrDec] s = some t
        ∧ (t.decreaseCounter.toNat : Int) = max ((s.decreaseCounter.toNat : Int) - 1) 0
        ∧ exec .isrDec t = .refused (.handlerNotPending .dec))
    ∧ (s.timerRunning = true →
      ∃ t, execAll [.tmrMatch, .tmrMatch, .isrTick] s = some t
        ∧ t.tickCount = (s.tickCount + 1) % 2 ^ (3 + s.cfg.tickWAbove3)
        ∧ t.scanIndex.toNat = (s.scanIndex.toNat + 1) % 4
        ∧ exec .isrTick t = .refused (.handlerNotPending .tick))
    ∧ (s.adcEnabled = true → ∀ first last : Byte,
      ∃ t, execAll [.adcEoc first, .adcEoc last, .isrAdc] s = some t
        ∧ t.analogReading = rescale s.cfg.rescale last
        ∧ exec .isrAdc t = .refused (.handlerNotPending .adc))

/-! ### Analog Sampler -/

/-- R104: ADC.ARM sets AdcEnabled and nothing else; a second one changes nothing. -/
def Obligations.AdcArmEnablesTheSampler : Prop :=
  decode 0x5000#16 = some .adcArm ∧
  ∀ s : State, s.inRange = true →
    exec .adcArm s = .next { s with adcEnabled := true } ∧ (s.adcEnabled = true → exec .adcArm s = .next s)

/-- R105: ADC.EOC s at an enabled sampler stores the sample, over an unserviced one too, and sets Pend.ADC; at a disabled one it
does nothing. -/
def Obligations.AdcEocLatchesTheSample : Prop :=
  (∀ sample : Byte, decode (0x5100#16 ||| sample.setWidth 16) = some (.adcEoc sample)) ∧
  ∀ (sample : Byte) (s : State), s.inRange = true →
    (s.adcEnabled = true → exec (.adcEoc sample) s = .next { s with adcData := sample, pendAdc := true })
      ∧ (s.adcEnabled = false → exec (.adcEoc sample) s = .next s)

/-- R106: ISR.ADC, when Pend.ADC is 1, clears the flag and overwrites AnalogReading with RESCALE(AdcData), in every mode and
whatever the reading was; it changes nothing else, no display register. Under the default RESCALE the samples 0, 128 and
255 give 0, 501 and 999. -/
def Obligations.IsrAdcOverwritesTheReading : Prop :=
  decode 0x5200#16 = some .isrAdc ∧
  ∀ s : State, s.inRange = true →
    (s.pendAdc = true →
      exec .isrAdc s = .next { s with pendAdc := false, analogReading := rescale s.cfg.rescale s.adcData })
    ∧ (s.pendAdc = false → exec .isrAdc s = .refused (.handlerNotPending .adc))
    ∧ (s.cfg.rescale = .nearest → rescale s.cfg.rescale 0#8 = 0#10 ∧ rescale s.cfg.rescale 128#8 = 501#10
      ∧ rescale s.cfg.rescale 255#8 = 999#10)

/-- Every RESCALE of a configuration record has values in [0,999], never falls and is 0 at 0; the default is also 999 at 255,
strictly increasing and within one half of s * 999 / 255 (R109's properties). That every list of a record reads as an
admissible function, and that the records leave none out, is the model's choice of how a list is read
(notes/assumptions/17.md). -/
def Obligations.RescaleIsAdmissible : Prop :=
  (∀ (f : RescaleFn) (a : Byte), (rescale f a).toNat ≤ 999)
    ∧ (∀ (f : RescaleFn) (a b : Byte), a.toNat ≤ b.toNat → (rescale f a).toNat ≤ (rescale f b).toNat)
    ∧ (∀ f : RescaleFn, rescale f 0#8 = 0#10)
    ∧ rescale .nearest 255#8 = 999#10
    ∧ (∀ a b : Byte, a.toNat < b.toNat → (rescale .nearest a).toNat < (rescale .nearest b).toNat)
    ∧ (∀ a : Byte, 2 * ((rescale .nearest a).toNat * 255) ≤ 2 * (a.toNat * 999) + 255
      ∧ 2 * (a.toNat * 999) ≤ 2 * ((rescale .nearest a).toNat * 255) + 255)
    ∧ (∀ g : Byte → BitVec 10, g 0#8 = 0#10 → (∀ a, (g a).toNat ≤ 999) →
      (∀ a b : Byte, a.toNat ≤ b.toNat → (g a).toNat ≤ (g b).toNat) → ∃ f : RescaleFn, ∀ a, rescale f a = g a)

/-! ### Mode Controller -/

/-- R114: PIN.MODE drives the mode button's line and changes nothing else; no flag exists for it. -/
def Obligations.PinModeDrivesTheLine : Prop :=
  (∀ lvl : Byte, lvl.toNat ≤ 1 → decode (0x6000#16 ||| lvl.setWidth 16) = some (.pinMode lvl)) ∧
  ∀ s : State, s.inRange = true →
    exec (.pinMode 0#8) s = .next { s with modePin := false }
      ∧ exec (.pinMode 1#8) s = .next { s with modePin := true }

/-- R115, R116: M.POLL samples the inverted pin level and leaves the rising edge in t.e; M.PRESS counts one press modulo 4 if
t.e is 1; nothing else changes. -/
def Obligations.PollAndPressCountTheEdge : Prop :=
  decode 0x6100#16 = some .mPoll ∧ decode 0x6101#16 = some .mPress ∧
  ∀ s : State, s.inRange = true →
    (s.mainPC = 0#4 → exec .mPoll s = .next { s with
      btnPrev := s.btnCur
      btnCur := decide (s.modePin = false)
      te := decide (s.btnCur = false ∧ s.modePin = false)
      mainPC := 1#4 })
    ∧ (s.mainPC = 1#4 → ∃ t, exec .mPress s = .next t
      ∧ t.pressCount.toNat = (if s.te = true then (s.pressCount.toNat + 1) % 4 else s.pressCount.toNat)
      ∧ t = { s with pressCount := t.pressCount, mainPC := 2#4 })

/-- R117: M.SELECT copies the active mode's source, widened with zeros, into DisplayValue and goes to the mode's substep;
nothing else changes. -/
def Obligations.SelectCopiesTheActiveSource : Prop :=
  decode 0x6102#16 = some .mSelect ∧
  ∀ s : State, s.inRange = true → s.mainPC = 2#4 →
    ∃ t, exec .mSelect s = .next t ∧ t = { s with displayValue := t.displayValue, mainPC := t.mainPC }
      ∧ (s.mode = .auto → t.displayValue.toNat = s.autoCounter.toNat ∧ t.mainPC = 3#4)
      ∧ (s.mode = .increase → t.displayValue.toNat = s.increaseCounter.toNat ∧ t.mainPC = 11#4)
      ∧ (s.mode = .decrease → t.displayValue.toNat = s.decreaseCounter.toNat ∧ t.mainPC = 11#4)
      ∧ (s.mode = .analog → t.displayValue = s.analogReading ∧ t.mainPC = 6#4)

/-- R118 to R120: the Auto substep: t.c is whether TickCount is 5 (eq) or at least 5 (ge); if t.c is 1, TickCount is cleared and
AutoCounter advances modulo 160; nothing else changes. -/
def Obligations.AutoSubstepAdvancesOnTheThreshold : Prop :=
  decode 0x6103#16 = some .mAutoCmp ∧ decode 0x6104#16 = some .mAutoClr ∧ decode 0x6105#16 = some .mAutoAdv ∧
  ∀ s : State, s.inRange = true →
    (s.mainPC = 3#4 → s.cfg.tickCmp = .eq →
      exec .mAutoCmp s = .next { s with tc := decide (s.tickCount = 5), mainPC := 4#4 })
    ∧ (s.mainPC = 3#4 → s.cfg.tickCmp = .ge →
      exec .mAutoCmp s = .next { s with tc := decide (5 ≤ s.tickCount), mainPC := 4#4 })
    ∧ (s.mainPC = 4#4 → exec .mAutoClr s = .next { s with
      tickCount := if s.tc = true then 0 else s.tickCount
      mainPC := 5#4 })
    ∧ (s.mainPC = 5#4 → ∃ t, exec .mAutoAdv s = .next t
      ∧ t.autoCounter.toNat = (if s.tc = true then (s.autoCounter.toNat + 1) % 160 else s.autoCounter.toNat)
      ∧ t = { s with autoCounter := t.autoCounter, mainPC := 11#4 })

/-- R121 to R124: the first four micro-steps of the Analog substep: the sampler is re-armed, t.i takes ScanIndex, the position
t.i is shown with the digit it has now, t.j takes ScanIndex; nothing else changes. -/
def Obligations.AnalogSubstepReadsLightsAndRereads : Prop :=
  decode 0x6106#16 = some .mAnaArm ∧ decode 0x6107#16 = some .mAnaRd ∧ decode 0x6108#16 = some .mAnaWr
    ∧ decode 0x6109#16 = some .mAnaRd2 ∧
  ∀ s : State, s.inRange = true →
    (s.mainPC = 6#4 → exec .mAnaArm s = .next { s with adcEnabled := true, mainPC := 7#4 })
    ∧ (s.mainPC = 7#4 → exec .mAnaRd s = .next { s with ti := s.scanIndex, mainPC := 8#4 })
    ∧ (s.mainPC = 8#4 → s.ti.toNat ≤ 3 → ∃ t, exec .mAnaWr s = .next t ∧ shows s s.ti.toNat t.displayPort
      ∧ t = { s with displayPort := t.displayPort, portTrace := s.portTrace ++ [t.displayPort], mainPC := 9#4 })
    ∧ (s.mainPC = 9#4 → exec .mAnaRd2 s = .next { s with tj := s.scanIndex, mainPC := 10#4 })

/-- R125: M.ANA.INC writes (t.j + 1) mod 4 into ScanIndex and nothing else; and the outcome of one handler's scan step inside
the four micro-steps, for each handler that scans: between M.ANA.RD and M.ANA.WR, and between M.ANA.WR and M.ANA.RD2, the
position s is lit twice and s + 1 is dropped (ScanIndex ends at s + 2); between M.ANA.RD2 and M.ANA.INC it is lit twice
and the handler's advance is lost (s + 1); before or after the four, s and s + 1 are lit in order (s + 2). All modulo 4. -/
def Obligations.HandlerScanInsideTheSplitScan : Prop :=
  decode 0x610A#16 = some .mAnaInc ∧
  (∀ s : State, s.inRange = true → s.mainPC = 10#4 →
    ∃ t, exec .mAnaInc s = .next t ∧ t.scanIndex.toNat = (s.tj.toNat + 1) % 4
      ∧ t = { s with scanIndex := t.scanIndex, mainPC := 11#4 }) ∧
  ∀ (x : Source) (s : State), x ≠ .adc → s.inRange = true → s.mainPC = 7#4 → s.pending x = true →
    (∀ is ∈ [[Instr.mAnaRd, handlerOf x, .mAnaWr, .mAnaRd2, .mAnaInc], [.mAnaRd, .mAnaWr, handlerOf x, .mAnaRd2, .mAnaInc]],
      ∃ t b, execAll is s = some t ∧ shows s s.scanIndex.toNat b ∧ t.portTrace = s.portTrace ++ [b, b]
        ∧ t.scanIndex.toNat = (s.scanIndex.toNat + 2) % 4)
    ∧ (∃ t b, execAll [.mAnaRd, .mAnaWr, .mAnaRd2, handlerOf x, .mAnaInc] s = some t ∧ shows s s.scanIndex.toNat b
        ∧ t.portTrace = s.portTrace ++ [b, b] ∧ t.scanIndex.toNat = (s.scanIndex.toNat + 1) % 4)
    ∧ ∀ is ∈ [[handlerOf x, .mAnaRd, .mAnaWr, .mAnaRd2, .mAnaInc], [Instr.mAnaRd, .mAnaWr, .mAnaRd2, .mAnaInc, handlerOf x]],
      ∃ t b c, execAll is s = some t ∧ shows s s.scanIndex.toNat b ∧ shows s ((s.scanIndex.toNat + 1) % 4) c
        ∧ t.portTrace = s.portTrace ++ [b, c] ∧ t.scanIndex.toNat = (s.scanIndex.toNat + 2) % 4

/-- With no handler between them, the four micro-steps M.ANA.RD to M.ANA.INC together are one MUX.SCAN: they end in its state
but for MainPC and the two temporaries. -/
def Obligations.SplitScanRefinesMuxScan : Prop :=
  ∀ s : State, s.inRange = true → s.mainPC = 7#4 →
    ∃ t, exec .muxScan s = .next t
      ∧ execAll [.mAnaRd, .mAnaWr, .mAnaRd2, .mAnaInc] s
        = some { t with mainPC := 11#4, ti := s.scanIndex, tj := s.scanIndex }

/-- R126 to R130: M.TRANS compares PressCount with the mode's own threshold, 1, 2, 3 or 0; if it is met, the mode advances and
the entry action is done (both edge sources enabled; none; the sampler enabled; AutoCounter cleared); otherwise only
MainPC changes. -/
def Obligations.TransitionTable : Prop :=
  decode 0x610B#16 = some .mTrans ∧
  ∀ s : State, s.inRange = true → s.mainPC = 11#4 →
    exec .mTrans s = .next (
      if s.mode = .auto ∧ s.pressCount = 1#2 then
        { s with mode := .increase, incEnabled := true, decEnabled := true, mainPC := 12#4 }
      else if s.mode = .increase ∧ s.pressCount = 2#2 then { s with mode := .decrease, mainPC := 12#4 }
      else if s.mode = .decrease ∧ s.pressCount = 3#2 then
        { s with mode := .analog, adcEnabled := true, mainPC := 12#4 }
      else if s.mode = .analog ∧ s.pressCount = 0#2 then
        { s with mode := .auto, autoCounter := 0#8, mainPC := 12#4 }
      else { s with mainPC := 12#4 })

/-- R131 to R134: M.DIG.k writes digit(k, DisplayValue) into Digits[k], keeps the other three digits, and goes on to the next
micro-step, 15 to 0; nothing else changes. -/
def Obligations.DigitMicroStepsDecompose : Prop :=
  decode 0x610C#16 = some .mDig0 ∧ decode 0x610D#16 = some .mDig1 ∧ decode 0x610E#16 = some .mDig2
    ∧ decode 0x610F#16 = some .mDig3 ∧
  ∀ s : State, s.inRange = true →
    (s.mainPC = 12#4 → ∃ t, exec .mDig0 s = .next t ∧ t.digits.d0.toNat = s.displayValue.toNat / 1000
      ∧ t.digits.d0 = 0#4 ∧ t = { s with digits := { s.digits with d0 := t.digits.d0 }, mainPC := 13#4 })
    ∧ (s.mainPC = 13#4 → ∃ t, exec .mDig1 s = .next t ∧ t.digits.d1.toNat = s.displayValue.toNat % 1000 / 100
      ∧ t = { s with digits := { s.digits with d1 := t.digits.d1 }, mainPC := 14#4 })
    ∧ (s.mainPC = 14#4 → ∃ t, exec .mDig2 s = .next t ∧ t.digits.d2.toNat = s.displayValue.toNat % 100 / 10
      ∧ t = { s with digits := { s.digits with d2 := t.digits.d2 }, mainPC := 15#4 })
    ∧ (s.mainPC = 15#4 → ∃ t, exec .mDig3 s = .next t ∧ t.digits.d3.toNat = s.displayValue.toNat % 10
      ∧ t = { s with digits := { s.digits with d3 := t.digits.d3 }, mainPC := 0#4 })

/-- One uninterrupted iteration of the main loop, from MainPC 0 and lockstep, run with an empty schedule (the model's choice,
notes/assumptions/1.md): it ends at MainPC 0 after the micro-steps of its
mode, with Mode and PressCount both advanced by one modulo 4 if the poll saw an edge and both unchanged if not; entering
Auto clears AutoCounter; DisplayValue is the old mode's source and the digits are its decomposition. -/
def Obligations.MainIterationAdvancesTheModeCycle : Prop :=
  ∀ s : State, s.inRange = true → s.schedule = [] → s.mainPC = 0#4 → s.pressCount = s.mode.code →
    ∃ t, Host.Core.run Sys2Proof.core (iterationLength s.mode) s = .next t ∧ t.mainPC = 0#4
      ∧ t.mode.code = (if s.btnCur = false ∧ s.modePin = false then s.mode.code + 1#2 else s.mode.code)
      ∧ t.pressCount = t.mode.code
      ∧ (s.mode = .analog → t.mode = .auto → t.autoCounter = 0#8)
      ∧ (s.mode = .auto → t.mode = .increase → t.incEnabled = true ∧ t.decEnabled = true)
      ∧ (s.mode = .decrease → t.mode = .analog → t.adcEnabled = true)
      ∧ t.displayValue = s.valueSource
      ∧ ∀ k : BitVec 2, t.digits.get k = digit k t.displayValue

/-- The Auto cadence over rounds of one tick each: a round is some micro-steps, TMR.MATCH, some more, ISR.TICK, and then the rest
of that iteration and at least one whole iteration, so that a whole iteration lies between every dispatch and the next
match. From MainPC 0, AutoCounter 0 and TickCount 0 in Auto mode with the button released, after any n such rounds
AutoCounter is n / 5 modulo 160 and TickCount is n modulo 5: 1 after 5 ticks, 0 again after 800, for either TICK_CMP and
every TICKW. TICK; MAIN.ITER is the round with no micro-step before the dispatch. The premise says more than F2, which lets
a tick be dispatched after the iteration (see TwoTicksBetweenComparesPassTheThreshold). The main loop's micro-steps are run
with an empty schedule (the model's choice, notes/assumptions/1.md). -/
def Obligations.AutoCadenceUnderFastMainLoop : Prop :=
  ∀ (rounds : List TickRound) (s : State), s.inRange = true → s.mainPC = 0#4 → s.mode = .auto → s.pressCount = 0#2 →
    s.modePin = true → s.timerRunning = true → s.autoCounter = 0#8 → s.tickCount = 0 →
    ∃ t, tickRounds rounds s = some t ∧ t.mode = .auto ∧ t.mainPC = 0#4
      ∧ t.autoCounter.toNat = rounds.length / 5 % 160 ∧ t.tickCount = rounds.length % 5

/-! ### Interrupts -/

/-- Taking an interrupt: a handler runs exactly when its flag is 1, whatever its enable bit; it clears that flag and returns
with MainPC, the temporaries and every register of the main loop as they were: only the shared registers and the
handler-owned values may differ. -/
def Obligations.HandlersLeaveTheMainLoopAsItWas : Prop :=
  ∀ (x : Source) (s : State), s.inRange = true →
    (s.pending x = false → exec (handlerOf x) s = .refused (.handlerNotPending x))
    ∧ (s.pending x = true → ∃ t, exec (handlerOf x) s = .next t ∧ t.pending x = false
      ∧ (∀ y, y ≠ x → t.pending y = s.pending y)
      ∧ t = { s with
          pendTick := t.pendTick, pendInc := t.pendInc, pendDec := t.pendDec, pendAdc := t.pendAdc
          displayPort := t.displayPort, portTrace := t.portTrace, scanIndex := t.scanIndex, tickCount := t.tickCount
          increaseCounter := t.increaseCounter, decreaseCounter := t.decreaseCounter, analogReading := t.analogReading })

/-- Two pending handlers may run in either order, with the same outcome. Two that both scan light two successive positions, in
the order they run, with the digits the main loop last computed; ISR.ADC beside one that scans lights none. -/
def Obligations.PendingHandlersCommute : Prop :=
  ∀ (x y : Source) (s : State), x ≠ y → s.inRange = true → s.pending x = true → s.pending y = true →
    ∃ t, execAll [handlerOf x, handlerOf y] s = some t ∧ execAll [handlerOf y, handlerOf x] s = some t
      ∧ (x ≠ .adc → y ≠ .adc → ∃ b c, t.portTrace = s.portTrace ++ [b, c] ∧ shows s s.scanIndex.toNat b
        ∧ shows s ((s.scanIndex.toNat + 1) % 4) c ∧ t.scanIndex.toNat = (s.scanIndex.toNat + 2) % 4)
      ∧ (x = .adc ∨ y = .adc → scanned s t)

/-- Every step keeps the invariant sourcesArmed: a set flag of an edge source or of the sampler implies that source's enable bit,
any mode but Auto implies both edge enables, and Analog implies the sampler's. (RST clears flags, enables and mode together.) -/
def Obligations.SourcesStayArmed : Prop :=
  ∀ s t : State, s.sourcesArmed → step s = .next t → t.sourcesArmed

/-! ### Reset, invariants and ownership -/

/-- RST, from any state, gives every register the value of the reset table; AdcData and the temporaries may take any value. It is
the only operation that clears an enable bit other than TimerRunning, lowers IncreaseCounter or raises DecreaseCounter
(R156). The model's choices in it: the configuration record and the rest of the schedule stay (notes/assumptions/22.md), and
RST runs from a state out of range too (notes/assumptions/8.md). -/
def Obligations.RstRestoresTheResetTable : Prop :=
  decode 0x0000#16 = some .rst ∧
  (∀ s : State, ∃ (adcData ti tj : Byte) (te tc : Bool) (draws : Nat),
    exec .rst s = .next { State.resetWith s.cfg with
      adcData := adcData, ti := ti, tj := tj, te := te, tc := tc, draws := draws, schedule := s.schedule }) ∧
  ∀ (i : Instr) (s t : State), i ≠ .rst → exec i s = .next t →
    (s.incEnabled = true → t.incEnabled = true) ∧ (s.decEnabled = true → t.decEnabled = true)
      ∧ (s.adcEnabled = true → t.adcEnabled = true)
      ∧ s.increaseCounter.toNat ≤ t.increaseCounter.toNat ∧ t.decreaseCounter.toNat ≤ s.decreaseCounter.toNat

/-- R37: the reset table, for every configuration record; what the model chose for the registers the table calls unspecified
is left out. State.reset is this state for the record Config.reference (the model's choice, notes/assumptions/3.md). -/
def Obligations.ResetStateIsTheResetTable : Prop :=
  (∀ cfg : Config, ∀ s, s = State.resetWith cfg →
    s.mode = .auto ∧ s.pressCount = 0#2 ∧ s.autoCounter = 0#8 ∧ s.increaseCounter = 0#8 ∧ s.scanIndex = 0#8
      ∧ s.tickCount = 0 ∧ s.decreaseCounter.toNat = cfg.decInit.val ∧ s.analogReading.toNat = cfg.analogInit.val
      ∧ s.displayValue = 0#10 ∧ s.digits = ⟨0#4, 0#4, 0#4, 0#4⟩ ∧ s.displayPort = cfg.portInit
      ∧ s.btnPrev = false ∧ s.btnCur = false ∧ s.incEnabled = false ∧ s.decEnabled = false ∧ s.adcEnabled = false
      ∧ s.timerRunning = false ∧ (∀ x, s.pending x = false) ∧ s.mainPC = 0#4
      ∧ s.modePin = true ∧ s.incPin = true ∧ s.decPin = true ∧ s.portTrace = [])
    ∧ State.reset = State.resetWith Config.reference

/-- Every invariant below holds right after reset, for every configuration record. -/
def Obligations.ResetStateIsSound : Prop :=
  ∀ cfg : Config, (State.resetWith cfg).mainLoopSound ∧ (State.resetWith cfg).digitsCoherent
    ∧ (State.resetWith cfg).sourcesArmed ∧ (State.resetWith cfg).portSound ∧ (State.resetWith cfg).scanInOrder

/-- Every step, of whatever agent, keeps every register in its declared range. -/
def Obligations.RangesAreKept : Prop :=
  ∀ s t : State, s.inRange = true → step s = .next t → t.inRange = true

/-- Every step keeps the main loop's invariant: ranges, the lockstep of PressCount and Mode, each substep in its own mode, and
the scan-index temporaries in range where they are read. -/
def Obligations.LockstepIsKept : Prop :=
  ∀ s t : State, s.mainLoopSound → step s = .next t → t.mainLoopSound

/-- Every step keeps the digits coherent with DisplayValue wherever they have been recomputed, all four at MainPC 0. -/
def Obligations.DigitsStayCoherent : Prop :=
  ∀ s t : State, s.digitsCoherent → step s = .next t → t.digitsCoherent

/-- Ownership: but for RST, a register changes only in the operations the table of R10 gives it as writers; the configuration
record and the schedule change in none. -/
def Obligations.OnlyItsWritersChangeARegister : Prop :=
  ∀ (i : Instr) (s t : State), i ≠ .rst → exec i s = .next t →
    (t.autoCounter ≠ s.autoCounter → i = .mAutoAdv ∨ i = .mTrans)
      ∧ (t.increaseCounter ≠ s.increaseCounter → i = .isrInc)
      ∧ (t.decreaseCounter ≠ s.decreaseCounter → i = .isrDec)
      ∧ (t.analogReading ≠ s.analogReading → i = .isrAdc)
      ∧ (t.displayValue ≠ s.displayValue → i = .mSelect)
      ∧ (t.digits ≠ s.digits → (∃ k, i = .muxDig k) ∨ i ∈ [Instr.mDig0, .mDig1, .mDig2, .mDig3])
      ∧ (t.mode ≠ s.mode → i = .mTrans)
      ∧ (t.pressCount ≠ s.pressCount → i = .mPress)
      ∧ (t.scanIndex ≠ s.scanIndex → i ∈ [Instr.muxScan, .isrTick, .isrInc, .isrDec, .mAnaInc])
      ∧ (t.tickCount ≠ s.tickCount → i = .isrTick ∨ i = .mAutoClr)
      ∧ (t.btnPrev ≠ s.btnPrev ∨ t.btnCur ≠ s.btnCur ∨ t.te ≠ s.te → (∃ l, i = .dbPoll l) ∨ i = .mPoll)
      ∧ (t.incEnabled ≠ s.incEnabled ∨ t.decEnabled ≠ s.decEnabled → i = .edgeEnable ∨ i = .mTrans)
      ∧ (t.adcEnabled ≠ s.adcEnabled → i = .adcArm ∨ i = .mAnaArm ∨ i = .mTrans)
      ∧ (t.timerRunning ≠ s.timerRunning → i = .tmrStart ∨ i = .tmrStop)
      ∧ (t.displayPort ≠ s.displayPort ∨ t.portTrace ≠ s.portTrace →
        i ∈ [Instr.muxScan, .isrTick, .isrInc, .isrDec, .mAnaWr])
      ∧ (t.pendTick ≠ s.pendTick → i = .tmrMatch ∨ i = .isrTick)
      ∧ (t.pendInc ≠ s.pendInc → (∃ l, i = .pinInc l) ∨ i = .isrInc)
      ∧ (t.pendDec ≠ s.pendDec → (∃ l, i = .pinDec l) ∨ i = .isrDec)
      ∧ (t.pendAdc ≠ s.pendAdc → (∃ a, i = .adcEoc a) ∨ i = .isrAdc)
      ∧ (t.adcData ≠ s.adcData → ∃ a, i = .adcEoc a)
      ∧ (t.mainPC ≠ s.mainPC → ∃ n, agentClass i = .micro n)
      ∧ (t.tc ≠ s.tc → i = .mAutoCmp) ∧ (t.ti ≠ s.ti → i = .mAnaRd) ∧ (t.tj ≠ s.tj → i = .mAnaRd2)
      ∧ (t.modePin ≠ s.modePin → ∃ l, i = .pinMode l) ∧ (t.incPin ≠ s.incPin → ∃ l, i = .pinInc l)
      ∧ (t.decPin ≠ s.decPin → ∃ l, i = .pinDec l)
      ∧ t.cfg = s.cfg ∧ t.schedule = s.schedule ∧ t.draws = s.draws

/-- The values RST leaves unspecified are never seen: two states that differ only in AdcData and the temporaries, where no
rule reads them before writing them, take the same step, to two such states, or are refused alike. -/
def Obligations.UnspecifiedValuesAreNeverSeen : Prop :=
  ∀ s s' : State, sameButDead s s' →
    (∀ t, step s = .next t → ∃ t', step s' = .next t' ∧ sameButDead t t')
      ∧ ∀ r, step s = .refused r → step s' = .refused r
end

