-- ==== Sys2Proof/Laws/Arith.lean ====
section
/-! SUPPORT. What the arithmetic laws and the value encodings compute, as facts about numbers: one lemma per function. -/

namespace Sys2Proof.Machine

theorem satInc_toNat (n : Byte) : (satInc n).toNat = min (n.toNat + 1) 159 := by
  unfold satInc cntMax
  split <;> simp <;> omega

theorem satDec_toNat (n : Byte) : (satDec n).toNat = n.toNat - 1 := by
  unfold satDec
  split
  · simp_all
  · rename_i h
    have : n.toNat ≠ 0 := fun h0 => h (BitVec.eq_of_toNat_eq (by simpa using h0))
    simp
    omega

theorem nextPosition_toNat (i : Byte) : (nextPosition i).toNat = (i.toNat + 1) % 4 := by
  simp [nextPosition]
  omega

theorem nextPosition_le (i : Byte) : (nextPosition i).toNat ≤ 3 := by
  rw [nextPosition_toNat]
  omega

theorem nextPress_eq (p : BitVec 2) : nextPress p = p + 1#2 := by
  revert p
  decide

theorem nextPress_toNat (p : BitVec 2) : (nextPress p).toNat = (p.toNat + 1) % 4 := by
  revert p
  decide

theorem nextAuto_toNat (n : Byte) : (nextAuto n).toNat = (n.toNat + 1) % 160 := by
  simp [nextAuto]
  omega

theorem nextTick_lt (cfg : Config) (n : Nat) : nextTick cfg n < 2 ^ tickW cfg :=
  Nat.mod_lt _ (Nat.two_pow_pos _)

theorem eight_le_tickModulus (cfg : Config) : 8 ≤ 2 ^ tickW cfg := by
  have := Nat.pow_le_pow_right (show 0 < 2 by omega) (show 3 ≤ tickW cfg by unfold tickW; omega)
  simpa using this

/-- The four digits as numbers: a value of 10 bits has a thousands digit of at most 1, so every digit fits its register. -/
theorem digit_toNat (v : BitVec 10) :
    (digit 0#2 v).toNat = v.toNat / 1000 ∧ (digit 1#2 v).toNat = v.toNat % 1000 / 100
      ∧ (digit 2#2 v).toNat = v.toNat % 100 / 10 ∧ (digit 3#2 v).toNat = v.toNat % 10 := by
  have := v.isLt
  refine ⟨?_, ?_, ?_, ?_⟩ <;> simp [digit] <;> omega

theorem digit_le_nine (k : BitVec 2) (v : BitVec 10) : (digit k v).toNat ≤ 9 := by
  have := v.isLt
  have := digit_toNat v
  have hk : k = 0#2 ∨ k = 1#2 ∨ k = 2#2 ∨ k = 3#2 := by
    revert k
    decide
  rcases hk with rfl | rfl | rfl | rfl <;> omega

theorem Digits.get_set_self (ds : Digits) (k : BitVec 2) (d : BitVec 4) : (ds.set k d).get k = d := by
  have hk : k = 0#2 ∨ k = 1#2 ∨ k = 2#2 ∨ k = 3#2 := by
    revert k
    decide
  rcases hk with rfl | rfl | rfl | rfl <;> rfl

theorem Digits.get_set_other (ds : Digits) (k j : BitVec 2) (d : BitVec 4) (h : j ≠ k) :
    (ds.set k d).get j = ds.get j := by
  have split4 : ∀ k : BitVec 2, k = 0#2 ∨ k = 1#2 ∨ k = 2#2 ∨ k = 3#2 := by decide
  rcases split4 k with rfl | rfl | rfl | rfl <;> rcases split4 j with rfl | rfl | rfl | rfl <;>
    first | rfl | exact absurd rfl h

/-- Enable line k of the port byte for position i: low exactly for the position's own line. -/
theorem portByte_enable (c : SegCode) (i : BitVec 2) (d : BitVec 4) (k : Nat) (hk : k < 4) :
    (portByte c i d).getLsbD (4 + k) = decide (k ≠ i.toNat) := by
  have lines : ∀ (i : BitVec 2) (k : Fin 4), (enableLines i).getLsbD k.val = decide (k.val ≠ i.toNat) := by decide
  rw [portByte, BitVec.getLsbD_append]
  simp only [show ¬ (4 + k < 4) by omega, if_false, Nat.add_sub_cancel_left]
  exact lines i ⟨k, hk⟩

/-- The low nibble of the port byte is the digit's pattern. -/
theorem portByte_pattern (c : SegCode) (i : BitVec 2) (d : BitVec 4) :
    (portByte c i d).extractLsb' 0 4 = segPattern c d := by
  apply BitVec.eq_of_getLsbD_eq
  intro j hj
  rw [BitVec.getLsbD_extractLsb', portByte, BitVec.getLsbD_append]
  simp [hj]

theorem levelOperand_zero : levelOperand 0#8 = some false := rfl

theorem levelOperand_one : levelOperand 1#8 = some true := rfl

/-- A level is one of the two bytes 0 and 1. -/
theorem isLevel_iff (arg : Byte) : isLevel arg = true ↔ arg = 0#8 ∨ arg = 1#8 := by
  revert arg
  decide

theorem levelOperand_eq_some {arg : Byte} {l : Bool} (h : levelOperand arg = some l) :
    arg = 0#8 ∧ l = false ∨ arg = 1#8 ∧ l = true := by
  unfold levelOperand at h
  split at h
  · rename_i h1
    rcases (isLevel_iff arg).1 h1 with rfl | rfl <;> simp at h <;> simp [h]
  · cases h

theorem digitOperand_eq_some {arg : Byte} {k : BitVec 2} (h : digitOperand arg = some k) :
    arg.toNat ≤ 3 ∧ k = arg.setWidth 2 := by
  unfold digitOperand isDigitIndex at h
  split at h <;> simp_all

end Sys2Proof.Machine
end

