-- ==== Sys2Proof/Laws/State.lean ====
section
/-! SUPPORT. What each named update of State does to each field, one lemma per field and update, so that no proof unfolds a
record update. -/

namespace Sys2Proof.Machine

/-! ### State.portWrite -/

@[simp] theorem State.portWrite_cfg (s : State) (b : Byte) :
    (s.portWrite b).cfg = s.cfg := rfl
@[simp] theorem State.portWrite_mode (s : State) (b : Byte) :
    (s.portWrite b).mode = s.mode := rfl
@[simp] theorem State.portWrite_pressCount (s : State) (b : Byte) :
    (s.portWrite b).pressCount = s.pressCount := rfl
@[simp] theorem State.portWrite_autoCounter (s : State) (b : Byte) :
    (s.portWrite b).autoCounter = s.autoCounter := rfl
@[simp] theorem State.portWrite_increaseCounter (s : State) (b : Byte) :
    (s.portWrite b).increaseCounter = s.increaseCounter := rfl
@[simp] theorem State.portWrite_decreaseCounter (s : State) (b : Byte) :
    (s.portWrite b).decreaseCounter = s.decreaseCounter := rfl
@[simp] theorem State.portWrite_analogReading (s : State) (b : Byte) :
    (s.portWrite b).analogReading = s.analogReading := rfl
@[simp] theorem State.portWrite_displayValue (s : State) (b : Byte) :
    (s.portWrite b).displayValue = s.displayValue := rfl
@[simp] theorem State.portWrite_digits (s : State) (b : Byte) :
    (s.portWrite b).digits = s.digits := rfl
@[simp] theorem State.portWrite_scanIndex (s : State) (b : Byte) :
    (s.portWrite b).scanIndex = s.scanIndex := rfl
@[simp] theorem State.portWrite_tickCount (s : State) (b : Byte) :
    (s.portWrite b).tickCount = s.tickCount := rfl
@[simp] theorem State.portWrite_btnPrev (s : State) (b : Byte) :
    (s.portWrite b).btnPrev = s.btnPrev := rfl
@[simp] theorem State.portWrite_btnCur (s : State) (b : Byte) :
    (s.portWrite b).btnCur = s.btnCur := rfl
@[simp] theorem State.portWrite_incEnabled (s : State) (b : Byte) :
    (s.portWrite b).incEnabled = s.incEnabled := rfl
@[simp] theorem State.portWrite_decEnabled (s : State) (b : Byte) :
    (s.portWrite b).decEnabled = s.decEnabled := rfl
@[simp] theorem State.portWrite_adcEnabled (s : State) (b : Byte) :
    (s.portWrite b).adcEnabled = s.adcEnabled := rfl
@[simp] theorem State.portWrite_timerRunning (s : State) (b : Byte) :
    (s.portWrite b).timerRunning = s.timerRunning := rfl
@[simp] theorem State.portWrite_pendTick (s : State) (b : Byte) :
    (s.portWrite b).pendTick = s.pendTick := rfl
@[simp] theorem State.portWrite_pendInc (s : State) (b : Byte) :
    (s.portWrite b).pendInc = s.pendInc := rfl
@[simp] theorem State.portWrite_pendDec (s : State) (b : Byte) :
    (s.portWrite b).pendDec = s.pendDec := rfl
@[simp] theorem State.portWrite_pendAdc (s : State) (b : Byte) :
    (s.portWrite b).pendAdc = s.pendAdc := rfl
@[simp] theorem State.portWrite_adcData (s : State) (b : Byte) :
    (s.portWrite b).adcData = s.adcData := rfl
@[simp] theorem State.portWrite_displayPort (s : State) (b : Byte) :
    (s.portWrite b).displayPort = b := rfl
@[simp] theorem State.portWrite_mainPC (s : State) (b : Byte) :
    (s.portWrite b).mainPC = s.mainPC := rfl
@[simp] theorem State.portWrite_te (s : State) (b : Byte) :
    (s.portWrite b).te = s.te := rfl
@[simp] theorem State.portWrite_tc (s : State) (b : Byte) :
    (s.portWrite b).tc = s.tc := rfl
@[simp] theorem State.portWrite_ti (s : State) (b : Byte) :
    (s.portWrite b).ti = s.ti := rfl
@[simp] theorem State.portWrite_tj (s : State) (b : Byte) :
    (s.portWrite b).tj = s.tj := rfl
@[simp] theorem State.portWrite_modePin (s : State) (b : Byte) :
    (s.portWrite b).modePin = s.modePin := rfl
@[simp] theorem State.portWrite_incPin (s : State) (b : Byte) :
    (s.portWrite b).incPin = s.incPin := rfl
@[simp] theorem State.portWrite_decPin (s : State) (b : Byte) :
    (s.portWrite b).decPin = s.decPin := rfl
@[simp] theorem State.portWrite_portTrace (s : State) (b : Byte) :
    (s.portWrite b).portTrace = s.portTrace ++ [b] := rfl
@[simp] theorem State.portWrite_schedule (s : State) (b : Byte) :
    (s.portWrite b).schedule = s.schedule := rfl
@[simp] theorem State.portWrite_draws (s : State) (b : Byte) :
    (s.portWrite b).draws = s.draws := rfl

/-! ### State.light -/

@[simp] theorem State.light_cfg (s : State) (i : Byte) :
    (s.light i).cfg = s.cfg := rfl
@[simp] theorem State.light_mode (s : State) (i : Byte) :
    (s.light i).mode = s.mode := rfl
@[simp] theorem State.light_pressCount (s : State) (i : Byte) :
    (s.light i).pressCount = s.pressCount := rfl
@[simp] theorem State.light_autoCounter (s : State) (i : Byte) :
    (s.light i).autoCounter = s.autoCounter := rfl
@[simp] theorem State.light_increaseCounter (s : State) (i : Byte) :
    (s.light i).increaseCounter = s.increaseCounter := rfl
@[simp] theorem State.light_decreaseCounter (s : State) (i : Byte) :
    (s.light i).decreaseCounter = s.decreaseCounter := rfl
@[simp] theorem State.light_analogReading (s : State) (i : Byte) :
    (s.light i).analogReading = s.analogReading := rfl
@[simp] theorem State.light_displayValue (s : State) (i : Byte) :
    (s.light i).displayValue = s.displayValue := rfl
@[simp] theorem State.light_digits (s : State) (i : Byte) :
    (s.light i).digits = s.digits := rfl
@[simp] theorem State.light_scanIndex (s : State) (i : Byte) :
    (s.light i).scanIndex = s.scanIndex := rfl
@[simp] theorem State.light_tickCount (s : State) (i : Byte) :
    (s.light i).tickCount = s.tickCount := rfl
@[simp] theorem State.light_btnPrev (s : State) (i : Byte) :
    (s.light i).btnPrev = s.btnPrev := rfl
@[simp] theorem State.light_btnCur (s : State) (i : Byte) :
    (s.light i).btnCur = s.btnCur := rfl
@[simp] theorem State.light_incEnabled (s : State) (i : Byte) :
    (s.light i).incEnabled = s.incEnabled := rfl
@[simp] theorem State.light_decEnabled (s : State) (i : Byte) :
    (s.light i).decEnabled = s.decEnabled := rfl
@[simp] theorem State.light_adcEnabled (s : State) (i : Byte) :
    (s.light i).adcEnabled = s.adcEnabled := rfl
@[simp] theorem State.light_timerRunning (s : State) (i : Byte) :
    (s.light i).timerRunning = s.timerRunning := rfl
@[simp] theorem State.light_pendTick (s : State) (i : Byte) :
    (s.light i).pendTick = s.pendTick := rfl
@[simp] theorem State.light_pendInc (s : State) (i : Byte) :
    (s.light i).pendInc = s.pendInc := rfl
@[simp] theorem State.light_pendDec (s : State) (i : Byte) :
    (s.light i).pendDec = s.pendDec := rfl
@[simp] theorem State.light_pendAdc (s : State) (i : Byte) :
    (s.light i).pendAdc = s.pendAdc := rfl
@[simp] theorem State.light_adcData (s : State) (i : Byte) :
    (s.light i).adcData = s.adcData := rfl
@[simp] theorem State.light_displayPort (s : State) (i : Byte) :
    (s.light i).displayPort = portByte s.cfg.segEncode (position i) (s.digits.get (position i)) := rfl
@[simp] theorem State.light_mainPC (s : State) (i : Byte) :
    (s.light i).mainPC = s.mainPC := rfl
@[simp] theorem State.light_te (s : State) (i : Byte) :
    (s.light i).te = s.te := rfl
@[simp] theorem State.light_tc (s : State) (i : Byte) :
    (s.light i).tc = s.tc := rfl
@[simp] theorem State.light_ti (s : State) (i : Byte) :
    (s.light i).ti = s.ti := rfl
@[simp] theorem State.light_tj (s : State) (i : Byte) :
    (s.light i).tj = s.tj := rfl
@[simp] theorem State.light_modePin (s : State) (i : Byte) :
    (s.light i).modePin = s.modePin := rfl
@[simp] theorem State.light_incPin (s : State) (i : Byte) :
    (s.light i).incPin = s.incPin := rfl
@[simp] theorem State.light_decPin (s : State) (i : Byte) :
    (s.light i).decPin = s.decPin := rfl
@[simp] theorem State.light_portTrace (s : State) (i : Byte) :
    (s.light i).portTrace = s.portTrace ++ [portByte s.cfg.segEncode (position i) (s.digits.get (position i))] := rfl
@[simp] theorem State.light_schedule (s : State) (i : Byte) :
    (s.light i).schedule = s.schedule := rfl
@[simp] theorem State.light_draws (s : State) (i : Byte) :
    (s.light i).draws = s.draws := rfl

/-! ### State.scanStep -/

@[simp] theorem State.scanStep_cfg (s : State) :
    (s.scanStep).cfg = s.cfg := rfl
@[simp] theorem State.scanStep_mode (s : State) :
    (s.scanStep).mode = s.mode := rfl
@[simp] theorem State.scanStep_pressCount (s : State) :
    (s.scanStep).pressCount = s.pressCount := rfl
@[simp] theorem State.scanStep_autoCounter (s : State) :
    (s.scanStep).autoCounter = s.autoCounter := rfl
@[simp] theorem State.scanStep_increaseCounter (s : State) :
    (s.scanStep).increaseCounter = s.increaseCounter := rfl
@[simp] theorem State.scanStep_decreaseCounter (s : State) :
    (s.scanStep).decreaseCounter = s.decreaseCounter := rfl
@[simp] theorem State.scanStep_analogReading (s : State) :
    (s.scanStep).analogReading = s.analogReading := rfl
@[simp] theorem State.scanStep_displayValue (s : State) :
    (s.scanStep).displayValue = s.displayValue := rfl
@[simp] theorem State.scanStep_digits (s : State) :
    (s.scanStep).digits = s.digits := rfl
@[simp] theorem State.scanStep_scanIndex (s : State) :
    (s.scanStep).scanIndex = nextPosition s.scanIndex := rfl
@[simp] theorem State.scanStep_tickCount (s : State) :
    (s.scanStep).tickCount = s.tickCount := rfl
@[simp] theorem State.scanStep_btnPrev (s : State) :
    (s.scanStep).btnPrev = s.btnPrev := rfl
@[simp] theorem State.scanStep_btnCur (s : State) :
    (s.scanStep).btnCur = s.btnCur := rfl
@[simp] theorem State.scanStep_incEnabled (s : State) :
    (s.scanStep).incEnabled = s.incEnabled := rfl
@[simp] theorem State.scanStep_decEnabled (s : State) :
    (s.scanStep).decEnabled = s.decEnabled := rfl
@[simp] theorem State.scanStep_adcEnabled (s : State) :
    (s.scanStep).adcEnabled = s.adcEnabled := rfl
@[simp] theorem State.scanStep_timerRunning (s : State) :
    (s.scanStep).timerRunning = s.timerRunning := rfl
@[simp] theorem State.scanStep_pendTick (s : State) :
    (s.scanStep).pendTick = s.pendTick := rfl
@[simp] theorem State.scanStep_pendInc (s : State) :
    (s.scanStep).pendInc = s.pendInc := rfl
@[simp] theorem State.scanStep_pendDec (s : State) :
    (s.scanStep).pendDec = s.pendDec := rfl
@[simp] theorem State.scanStep_pendAdc (s : State) :
    (s.scanStep).pendAdc = s.pendAdc := rfl
@[simp] theorem State.scanStep_adcData (s : State) :
    (s.scanStep).adcData = s.adcData := rfl
@[simp] theorem State.scanStep_displayPort (s : State) :
    (s.scanStep).displayPort = portByte s.cfg.segEncode (position s.scanIndex) (s.digits.get (position s.scanIndex)) := rfl
@[simp] theorem State.scanStep_mainPC (s : State) :
    (s.scanStep).mainPC = s.mainPC := rfl
@[simp] theorem State.scanStep_te (s : State) :
    (s.scanStep).te = s.te := rfl
@[simp] theorem State.scanStep_tc (s : State) :
    (s.scanStep).tc = s.tc := rfl
@[simp] theorem State.scanStep_ti (s : State) :
    (s.scanStep).ti = s.ti := rfl
@[simp] theorem State.scanStep_tj (s : State) :
    (s.scanStep).tj = s.tj := rfl
@[simp] theorem State.scanStep_modePin (s : State) :
    (s.scanStep).modePin = s.modePin := rfl
@[simp] theorem State.scanStep_incPin (s : State) :
    (s.scanStep).incPin = s.incPin := rfl
@[simp] theorem State.scanStep_decPin (s : State) :
    (s.scanStep).decPin = s.decPin := rfl
@[simp] theorem State.scanStep_portTrace (s : State) :
    (s.scanStep).portTrace = s.portTrace ++ [portByte s.cfg.segEncode (position s.scanIndex) (s.digits.get (position s.scanIndex))] := rfl
@[simp] theorem State.scanStep_schedule (s : State) :
    (s.scanStep).schedule = s.schedule := rfl
@[simp] theorem State.scanStep_draws (s : State) :
    (s.scanStep).draws = s.draws := rfl

/-! ### State.debounce -/

@[simp] theorem State.debounce_cfg (s : State) (lvl : Bool) :
    (s.debounce lvl).cfg = s.cfg := rfl
@[simp] theorem State.debounce_mode (s : State) (lvl : Bool) :
    (s.debounce lvl).mode = s.mode := rfl
@[simp] theorem State.debounce_pressCount (s : State) (lvl : Bool) :
    (s.debounce lvl).pressCount = s.pressCount := rfl
@[simp] theorem State.debounce_autoCounter (s : State) (lvl : Bool) :
    (s.debounce lvl).autoCounter = s.autoCounter := rfl
@[simp] theorem State.debounce_increaseCounter (s : State) (lvl : Bool) :
    (s.debounce lvl).increaseCounter = s.increaseCounter := rfl
@[simp] theorem State.debounce_decreaseCounter (s : State) (lvl : Bool) :
    (s.debounce lvl).decreaseCounter = s.decreaseCounter := rfl
@[simp] theorem State.debounce_analogReading (s : State) (lvl : Bool) :
    (s.debounce lvl).analogReading = s.analogReading := rfl
@[simp] theorem State.debounce_displayValue (s : State) (lvl : Bool) :
    (s.debounce lvl).displayValue = s.displayValue := rfl
@[simp] theorem State.debounce_digits (s : State) (lvl : Bool) :
    (s.debounce lvl).digits = s.digits := rfl
@[simp] theorem State.debounce_scanIndex (s : State) (lvl : Bool) :
    (s.debounce lvl).scanIndex = s.scanIndex := rfl
@[simp] theorem State.debounce_tickCount (s : State) (lvl : Bool) :
    (s.debounce lvl).tickCount = s.tickCount := rfl
@[simp] theorem State.debounce_btnPrev (s : State) (lvl : Bool) :
    (s.debounce lvl).btnPrev = s.btnCur := rfl
@[simp] theorem State.debounce_btnCur (s : State) (lvl : Bool) :
    (s.debounce lvl).btnCur = logicalLevel lvl := rfl
@[simp] theorem State.debounce_incEnabled (s : State) (lvl : Bool) :
    (s.debounce lvl).incEnabled = s.incEnabled := rfl
@[simp] theorem State.debounce_decEnabled (s : State) (lvl : Bool) :
    (s.debounce lvl).decEnabled = s.decEnabled := rfl
@[simp] theorem State.debounce_adcEnabled (s : State) (lvl : Bool) :
    (s.debounce lvl).adcEnabled = s.adcEnabled := rfl
@[simp] theorem State.debounce_timerRunning (s : State) (lvl : Bool) :
    (s.debounce lvl).timerRunning = s.timerRunning := rfl
@[simp] theorem State.debounce_pendTick (s : State) (lvl : Bool) :
    (s.debounce lvl).pendTick = s.pendTick := rfl
@[simp] theorem State.debounce_pendInc (s : State) (lvl : Bool) :
    (s.debounce lvl).pendInc = s.pendInc := rfl
@[simp] theorem State.debounce_pendDec (s : State) (lvl : Bool) :
    (s.debounce lvl).pendDec = s.pendDec := rfl
@[simp] theorem State.debounce_pendAdc (s : State) (lvl : Bool) :
    (s.debounce lvl).pendAdc = s.pendAdc := rfl
@[simp] theorem State.debounce_adcData (s : State) (lvl : Bool) :
    (s.debounce lvl).adcData = s.adcData := rfl
@[simp] theorem State.debounce_displayPort (s : State) (lvl : Bool) :
    (s.debounce lvl).displayPort = s.displayPort := rfl
@[simp] theorem State.debounce_mainPC (s : State) (lvl : Bool) :
    (s.debounce lvl).mainPC = s.mainPC := rfl
@[simp] theorem State.debounce_te (s : State) (lvl : Bool) :
    (s.debounce lvl).te = risingEdge s.btnCur (logicalLevel lvl) := rfl
@[simp] theorem State.debounce_tc (s : State) (lvl : Bool) :
    (s.debounce lvl).tc = s.tc := rfl
@[simp] theorem State.debounce_ti (s : State) (lvl : Bool) :
    (s.debounce lvl).ti = s.ti := rfl
@[simp] theorem State.debounce_tj (s : State) (lvl : Bool) :
    (s.debounce lvl).tj = s.tj := rfl
@[simp] theorem State.debounce_modePin (s : State) (lvl : Bool) :
    (s.debounce lvl).modePin = s.modePin := rfl
@[simp] theorem State.debounce_incPin (s : State) (lvl : Bool) :
    (s.debounce lvl).incPin = s.incPin := rfl
@[simp] theorem State.debounce_decPin (s : State) (lvl : Bool) :
    (s.debounce lvl).decPin = s.decPin := rfl
@[simp] theorem State.debounce_portTrace (s : State) (lvl : Bool) :
    (s.debounce lvl).portTrace = s.portTrace := rfl
@[simp] theorem State.debounce_schedule (s : State) (lvl : Bool) :
    (s.debounce lvl).schedule = s.schedule := rfl
@[simp] theorem State.debounce_draws (s : State) (lvl : Bool) :
    (s.debounce lvl).draws = s.draws := rfl

/-! ### State.writeDigit -/

@[simp] theorem State.writeDigit_cfg (s : State) (k : BitVec 2) :
    (s.writeDigit k).cfg = s.cfg := rfl
@[simp] theorem State.writeDigit_mode (s : State) (k : BitVec 2) :
    (s.writeDigit k).mode = s.mode := rfl
@[simp] theorem State.writeDigit_pressCount (s : State) (k : BitVec 2) :
    (s.writeDigit k).pressCount = s.pressCount := rfl
@[simp] theorem State.writeDigit_autoCounter (s : State) (k : BitVec 2) :
    (s.writeDigit k).autoCounter = s.autoCounter := rfl
@[simp] theorem State.writeDigit_increaseCounter (s : State) (k : BitVec 2) :
    (s.writeDigit k).increaseCounter = s.increaseCounter := rfl
@[simp] theorem State.writeDigit_decreaseCounter (s : State) (k : BitVec 2) :
    (s.writeDigit k).decreaseCounter = s.decreaseCounter := rfl
@[simp] theorem State.writeDigit_analogReading (s : State) (k : BitVec 2) :
    (s.writeDigit k).analogReading = s.analogReading := rfl
@[simp] theorem State.writeDigit_displayValue (s : State) (k : BitVec 2) :
    (s.writeDigit k).displayValue = s.displayValue := rfl
@[simp] theorem State.writeDigit_digits (s : State) (k : BitVec 2) :
    (s.writeDigit k).digits = s.digits.set k (digit k s.displayValue) := rfl
@[simp] theorem State.writeDigit_scanIndex (s : State) (k : BitVec 2) :
    (s.writeDigit k).scanIndex = s.scanIndex := rfl
@[simp] theorem State.writeDigit_tickCount (s : State) (k : BitVec 2) :
    (s.writeDigit k).tickCount = s.tickCount := rfl
@[simp] theorem State.writeDigit_btnPrev (s : State) (k : BitVec 2) :
    (s.writeDigit k).btnPrev = s.btnPrev := rfl
@[simp] theorem State.writeDigit_btnCur (s : State) (k : BitVec 2) :
    (s.writeDigit k).btnCur = s.btnCur := rfl
@[simp] theorem State.writeDigit_incEnabled (s : State) (k : BitVec 2) :
    (s.writeDigit k).incEnabled = s.incEnabled := rfl
@[simp] theorem State.writeDigit_decEnabled (s : State) (k : BitVec 2) :
    (s.writeDigit k).decEnabled = s.decEnabled := rfl
@[simp] theorem State.writeDigit_adcEnabled (s : State) (k : BitVec 2) :
    (s.writeDigit k).adcEnabled = s.adcEnabled := rfl
@[simp] theorem State.writeDigit_timerRunning (s : State) (k : BitVec 2) :
    (s.writeDigit k).timerRunning = s.timerRunning := rfl
@[simp] theorem State.writeDigit_pendTick (s : State) (k : BitVec 2) :
    (s.writeDigit k).pendTick = s.pendTick := rfl
@[simp] theorem State.writeDigit_pendInc (s : State) (k : BitVec 2) :
    (s.writeDigit k).pendInc = s.pendInc := rfl
@[simp] theorem State.writeDigit_pendDec (s : State) (k : BitVec 2) :
    (s.writeDigit k).pendDec = s.pendDec := rfl
@[simp] theorem State.writeDigit_pendAdc (s : State) (k : BitVec 2) :
    (s.writeDigit k).pendAdc = s.pendAdc := rfl
@[simp] theorem State.writeDigit_adcData (s : State) (k : BitVec 2) :
    (s.writeDigit k).adcData = s.adcData := rfl
@[simp] theorem State.writeDigit_displayPort (s : State) (k : BitVec 2) :
    (s.writeDigit k).displayPort = s.displayPort := rfl
@[simp] theorem State.writeDigit_mainPC (s : State) (k : BitVec 2) :
    (s.writeDigit k).mainPC = s.mainPC := rfl
@[simp] theorem State.writeDigit_te (s : State) (k : BitVec 2) :
    (s.writeDigit k).te = s.te := rfl
@[simp] theorem State.writeDigit_tc (s : State) (k : BitVec 2) :
    (s.writeDigit k).tc = s.tc := rfl
@[simp] theorem State.writeDigit_ti (s : State) (k : BitVec 2) :
    (s.writeDigit k).ti = s.ti := rfl
@[simp] theorem State.writeDigit_tj (s : State) (k : BitVec 2) :
    (s.writeDigit k).tj = s.tj := rfl
@[simp] theorem State.writeDigit_modePin (s : State) (k : BitVec 2) :
    (s.writeDigit k).modePin = s.modePin := rfl
@[simp] theorem State.writeDigit_incPin (s : State) (k : BitVec 2) :
    (s.writeDigit k).incPin = s.incPin := rfl
@[simp] theorem State.writeDigit_decPin (s : State) (k : BitVec 2) :
    (s.writeDigit k).decPin = s.decPin := rfl
@[simp] theorem State.writeDigit_portTrace (s : State) (k : BitVec 2) :
    (s.writeDigit k).portTrace = s.portTrace := rfl
@[simp] theorem State.writeDigit_schedule (s : State) (k : BitVec 2) :
    (s.writeDigit k).schedule = s.schedule := rfl
@[simp] theorem State.writeDigit_draws (s : State) (k : BitVec 2) :
    (s.writeDigit k).draws = s.draws := rfl

/-! ### State.enableEdges -/

@[simp] theorem State.enableEdges_cfg (s : State) :
    (s.enableEdges).cfg = s.cfg := rfl
@[simp] theorem State.enableEdges_mode (s : State) :
    (s.enableEdges).mode = s.mode := rfl
@[simp] theorem State.enableEdges_pressCount (s : State) :
    (s.enableEdges).pressCount = s.pressCount := rfl
@[simp] theorem State.enableEdges_autoCounter (s : State) :
    (s.enableEdges).autoCounter = s.autoCounter := rfl
@[simp] theorem State.enableEdges_increaseCounter (s : State) :
    (s.enableEdges).increaseCounter = s.increaseCounter := rfl
@[simp] theorem State.enableEdges_decreaseCounter (s : State) :
    (s.enableEdges).decreaseCounter = s.decreaseCounter := rfl
@[simp] theorem State.enableEdges_analogReading (s : State) :
    (s.enableEdges).analogReading = s.analogReading := rfl
@[simp] theorem State.enableEdges_displayValue (s : State) :
    (s.enableEdges).displayValue = s.displayValue := rfl
@[simp] theorem State.enableEdges_digits (s : State) :
    (s.enableEdges).digits = s.digits := rfl
@[simp] theorem State.enableEdges_scanIndex (s : State) :
    (s.enableEdges).scanIndex = s.scanIndex := rfl
@[simp] theorem State.enableEdges_tickCount (s : State) :
    (s.enableEdges).tickCount = s.tickCount := rfl
@[simp] theorem State.enableEdges_btnPrev (s : State) :
    (s.enableEdges).btnPrev = s.btnPrev := rfl
@[simp] theorem State.enableEdges_btnCur (s : State) :
    (s.enableEdges).btnCur = s.btnCur := rfl
@[simp] theorem State.enableEdges_incEnabled (s : State) :
    (s.enableEdges).incEnabled = true := rfl
@[simp] theorem State.enableEdges_decEnabled (s : State) :
    (s.enableEdges).decEnabled = true := rfl
@[simp] theorem State.enableEdges_adcEnabled (s : State) :
    (s.enableEdges).adcEnabled = s.adcEnabled := rfl
@[simp] theorem State.enableEdges_timerRunning (s : State) :
    (s.enableEdges).timerRunning = s.timerRunning := rfl
@[simp] theorem State.enableEdges_pendTick (s : State) :
    (s.enableEdges).pendTick = s.pendTick := rfl
@[simp] theorem State.enableEdges_pendInc (s : State) :
    (s.enableEdges).pendInc = s.pendInc := rfl
@[simp] theorem State.enableEdges_pendDec (s : State) :
    (s.enableEdges).pendDec = s.pendDec := rfl
@[simp] theorem State.enableEdges_pendAdc (s : State) :
    (s.enableEdges).pendAdc = s.pendAdc := rfl
@[simp] theorem State.enableEdges_adcData (s : State) :
    (s.enableEdges).adcData = s.adcData := rfl
@[simp] theorem State.enableEdges_displayPort (s : State) :
    (s.enableEdges).displayPort = s.displayPort := rfl
@[simp] theorem State.enableEdges_mainPC (s : State) :
    (s.enableEdges).mainPC = s.mainPC := rfl
@[simp] theorem State.enableEdges_te (s : State) :
    (s.enableEdges).te = s.te := rfl
@[simp] theorem State.enableEdges_tc (s : State) :
    (s.enableEdges).tc = s.tc := rfl
@[simp] theorem State.enableEdges_ti (s : State) :
    (s.enableEdges).ti = s.ti := rfl
@[simp] theorem State.enableEdges_tj (s : State) :
    (s.enableEdges).tj = s.tj := rfl
@[simp] theorem State.enableEdges_modePin (s : State) :
    (s.enableEdges).modePin = s.modePin := rfl
@[simp] theorem State.enableEdges_incPin (s : State) :
    (s.enableEdges).incPin = s.incPin := rfl
@[simp] theorem State.enableEdges_decPin (s : State) :
    (s.enableEdges).decPin = s.decPin := rfl
@[simp] theorem State.enableEdges_portTrace (s : State) :
    (s.enableEdges).portTrace = s.portTrace := rfl
@[simp] theorem State.enableEdges_schedule (s : State) :
    (s.enableEdges).schedule = s.schedule := rfl
@[simp] theorem State.enableEdges_draws (s : State) :
    (s.enableEdges).draws = s.draws := rfl

/-! ### State.armAdc -/

@[simp] theorem State.armAdc_cfg (s : State) :
    (s.armAdc).cfg = s.cfg := rfl
@[simp] theorem State.armAdc_mode (s : State) :
    (s.armAdc).mode = s.mode := rfl
@[simp] theorem State.armAdc_pressCount (s : State) :
    (s.armAdc).pressCount = s.pressCount := rfl
@[simp] theorem State.armAdc_autoCounter (s : State) :
    (s.armAdc).autoCounter = s.autoCounter := rfl
@[simp] theorem State.armAdc_increaseCounter (s : State) :
    (s.armAdc).increaseCounter = s.increaseCounter := rfl
@[simp] theorem State.armAdc_decreaseCounter (s : State) :
    (s.armAdc).decreaseCounter = s.decreaseCounter := rfl
@[simp] theorem State.armAdc_analogReading (s : State) :
    (s.armAdc).analogReading = s.analogReading := rfl
@[simp] theorem State.armAdc_displayValue (s : State) :
    (s.armAdc).displayValue = s.displayValue := rfl
@[simp] theorem State.armAdc_digits (s : State) :
    (s.armAdc).digits = s.digits := rfl
@[simp] theorem State.armAdc_scanIndex (s : State) :
    (s.armAdc).scanIndex = s.scanIndex := rfl
@[simp] theorem State.armAdc_tickCount (s : State) :
    (s.armAdc).tickCount = s.tickCount := rfl
@[simp] theorem State.armAdc_btnPrev (s : State) :
    (s.armAdc).btnPrev = s.btnPrev := rfl
@[simp] theorem State.armAdc_btnCur (s : State) :
    (s.armAdc).btnCur = s.btnCur := rfl
@[simp] theorem State.armAdc_incEnabled (s : State) :
    (s.armAdc).incEnabled = s.incEnabled := rfl
@[simp] theorem State.armAdc_decEnabled (s : State) :
    (s.armAdc).decEnabled = s.decEnabled := rfl
@[simp] theorem State.armAdc_adcEnabled (s : State) :
    (s.armAdc).adcEnabled = true := rfl
@[simp] theorem State.armAdc_timerRunning (s : State) :
    (s.armAdc).timerRunning = s.timerRunning := rfl
@[simp] theorem State.armAdc_pendTick (s : State) :
    (s.armAdc).pendTick = s.pendTick := rfl
@[simp] theorem State.armAdc_pendInc (s : State) :
    (s.armAdc).pendInc = s.pendInc := rfl
@[simp] theorem State.armAdc_pendDec (s : State) :
    (s.armAdc).pendDec = s.pendDec := rfl
@[simp] theorem State.armAdc_pendAdc (s : State) :
    (s.armAdc).pendAdc = s.pendAdc := rfl
@[simp] theorem State.armAdc_adcData (s : State) :
    (s.armAdc).adcData = s.adcData := rfl
@[simp] theorem State.armAdc_displayPort (s : State) :
    (s.armAdc).displayPort = s.displayPort := rfl
@[simp] theorem State.armAdc_mainPC (s : State) :
    (s.armAdc).mainPC = s.mainPC := rfl
@[simp] theorem State.armAdc_te (s : State) :
    (s.armAdc).te = s.te := rfl
@[simp] theorem State.armAdc_tc (s : State) :
    (s.armAdc).tc = s.tc := rfl
@[simp] theorem State.armAdc_ti (s : State) :
    (s.armAdc).ti = s.ti := rfl
@[simp] theorem State.armAdc_tj (s : State) :
    (s.armAdc).tj = s.tj := rfl
@[simp] theorem State.armAdc_modePin (s : State) :
    (s.armAdc).modePin = s.modePin := rfl
@[simp] theorem State.armAdc_incPin (s : State) :
    (s.armAdc).incPin = s.incPin := rfl
@[simp] theorem State.armAdc_decPin (s : State) :
    (s.armAdc).decPin = s.decPin := rfl
@[simp] theorem State.armAdc_portTrace (s : State) :
    (s.armAdc).portTrace = s.portTrace := rfl
@[simp] theorem State.armAdc_schedule (s : State) :
    (s.armAdc).schedule = s.schedule := rfl
@[simp] theorem State.armAdc_draws (s : State) :
    (s.armAdc).draws = s.draws := rfl

/-! ### State.goto -/

@[simp] theorem State.goto_cfg (s : State) (n : BitVec 4) :
    (s.goto n).cfg = s.cfg := rfl
@[simp] theorem State.goto_mode (s : State) (n : BitVec 4) :
    (s.goto n).mode = s.mode := rfl
@[simp] theorem State.goto_pressCount (s : State) (n : BitVec 4) :
    (s.goto n).pressCount = s.pressCount := rfl
@[simp] theorem State.goto_autoCounter (s : State) (n : BitVec 4) :
    (s.goto n).autoCounter = s.autoCounter := rfl
@[simp] theorem State.goto_increaseCounter (s : State) (n : BitVec 4) :
    (s.goto n).increaseCounter = s.increaseCounter := rfl
@[simp] theorem State.goto_decreaseCounter (s : State) (n : BitVec 4) :
    (s.goto n).decreaseCounter = s.decreaseCounter := rfl
@[simp] theorem State.goto_analogReading (s : State) (n : BitVec 4) :
    (s.goto n).analogReading = s.analogReading := rfl
@[simp] theorem State.goto_displayValue (s : State) (n : BitVec 4) :
    (s.goto n).displayValue = s.displayValue := rfl
@[simp] theorem State.goto_digits (s : State) (n : BitVec 4) :
    (s.goto n).digits = s.digits := rfl
@[simp] theorem State.goto_scanIndex (s : State) (n : BitVec 4) :
    (s.goto n).scanIndex = s.scanIndex := rfl
@[simp] theorem State.goto_tickCount (s : State) (n : BitVec 4) :
    (s.goto n).tickCount = s.tickCount := rfl
@[simp] theorem State.goto_btnPrev (s : State) (n : BitVec 4) :
    (s.goto n).btnPrev = s.btnPrev := rfl
@[simp] theorem State.goto_btnCur (s : State) (n : BitVec 4) :
    (s.goto n).btnCur = s.btnCur := rfl
@[simp] theorem State.goto_incEnabled (s : State) (n : BitVec 4) :
    (s.goto n).incEnabled = s.incEnabled := rfl
@[simp] theorem State.goto_decEnabled (s : State) (n : BitVec 4) :
    (s.goto n).decEnabled = s.decEnabled := rfl
@[simp] theorem State.goto_adcEnabled (s : State) (n : BitVec 4) :
    (s.goto n).adcEnabled = s.adcEnabled := rfl
@[simp] theorem State.goto_timerRunning (s : State) (n : BitVec 4) :
    (s.goto n).timerRunning = s.timerRunning := rfl
@[simp] theorem State.goto_pendTick (s : State) (n : BitVec 4) :
    (s.goto n).pendTick = s.pendTick := rfl
@[simp] theorem State.goto_pendInc (s : State) (n : BitVec 4) :
    (s.goto n).pendInc = s.pendInc := rfl
@[simp] theorem State.goto_pendDec (s : State) (n : BitVec 4) :
    (s.goto n).pendDec = s.pendDec := rfl
@[simp] theorem State.goto_pendAdc (s : State) (n : BitVec 4) :
    (s.goto n).pendAdc = s.pendAdc := rfl
@[simp] theorem State.goto_adcData (s : State) (n : BitVec 4) :
    (s.goto n).adcData = s.adcData := rfl
@[simp] theorem State.goto_displayPort (s : State) (n : BitVec 4) :
    (s.goto n).displayPort = s.displayPort := rfl
@[simp] theorem State.goto_mainPC (s : State) (n : BitVec 4) :
    (s.goto n).mainPC = n := rfl
@[simp] theorem State.goto_te (s : State) (n : BitVec 4) :
    (s.goto n).te = s.te := rfl
@[simp] theorem State.goto_tc (s : State) (n : BitVec 4) :
    (s.goto n).tc = s.tc := rfl
@[simp] theorem State.goto_ti (s : State) (n : BitVec 4) :
    (s.goto n).ti = s.ti := rfl
@[simp] theorem State.goto_tj (s : State) (n : BitVec 4) :
    (s.goto n).tj = s.tj := rfl
@[simp] theorem State.goto_modePin (s : State) (n : BitVec 4) :
    (s.goto n).modePin = s.modePin := rfl
@[simp] theorem State.goto_incPin (s : State) (n : BitVec 4) :
    (s.goto n).incPin = s.incPin := rfl
@[simp] theorem State.goto_decPin (s : State) (n : BitVec 4) :
    (s.goto n).decPin = s.decPin := rfl
@[simp] theorem State.goto_portTrace (s : State) (n : BitVec 4) :
    (s.goto n).portTrace = s.portTrace := rfl
@[simp] theorem State.goto_schedule (s : State) (n : BitVec 4) :
    (s.goto n).schedule = s.schedule := rfl
@[simp] theorem State.goto_draws (s : State) (n : BitVec 4) :
    (s.goto n).draws = s.draws := rfl

/-! ### State.setPending -/

@[simp] theorem State.setPending_cfg (s : State) (x : Source) :
    (s.setPending x).cfg = s.cfg := by cases x <;> rfl
@[simp] theorem State.setPending_mode (s : State) (x : Source) :
    (s.setPending x).mode = s.mode := by cases x <;> rfl
@[simp] theorem State.setPending_pressCount (s : State) (x : Source) :
    (s.setPending x).pressCount = s.pressCount := by cases x <;> rfl
@[simp] theorem State.setPending_autoCounter (s : State) (x : Source) :
    (s.setPending x).autoCounter = s.autoCounter := by cases x <;> rfl
@[simp] theorem State.setPending_increaseCounter (s : State) (x : Source) :
    (s.setPending x).increaseCounter = s.increaseCounter := by cases x <;> rfl
@[simp] theorem State.setPending_decreaseCounter (s : State) (x : Source) :
    (s.setPending x).decreaseCounter = s.decreaseCounter := by cases x <;> rfl
@[simp] theorem State.setPending_analogReading (s : State) (x : Source) :
    (s.setPending x).analogReading = s.analogReading := by cases x <;> rfl
@[simp] theorem State.setPending_displayValue (s : State) (x : Source) :
    (s.setPending x).displayValue = s.displayValue := by cases x <;> rfl
@[simp] theorem State.setPending_digits (s : State) (x : Source) :
    (s.setPending x).digits = s.digits := by cases x <;> rfl
@[simp] theorem State.setPending_scanIndex (s : State) (x : Source) :
    (s.setPending x).scanIndex = s.scanIndex := by cases x <;> rfl
@[simp] theorem State.setPending_tickCount (s : State) (x : Source) :
    (s.setPending x).tickCount = s.tickCount := by cases x <;> rfl
@[simp] theorem State.setPending_btnPrev (s : State) (x : Source) :
    (s.setPending x).btnPrev = s.btnPrev := by cases x <;> rfl
@[simp] theorem State.setPending_btnCur (s : State) (x : Source) :
    (s.setPending x).btnCur = s.btnCur := by cases x <;> rfl
@[simp] theorem State.setPending_incEnabled (s : State) (x : Source) :
    (s.setPending x).incEnabled = s.incEnabled := by cases x <;> rfl
@[simp] theorem State.setPending_decEnabled (s : State) (x : Source) :
    (s.setPending x).decEnabled = s.decEnabled := by cases x <;> rfl
@[simp] theorem State.setPending_adcEnabled (s : State) (x : Source) :
    (s.setPending x).adcEnabled = s.adcEnabled := by cases x <;> rfl
@[simp] theorem State.setPending_timerRunning (s : State) (x : Source) :
    (s.setPending x).timerRunning = s.timerRunning := by cases x <;> rfl
@[simp] theorem State.setPending_pendTick (s : State) (x : Source) :
    (s.setPending x).pendTick = (x == .tick || s.pendTick) := by cases x <;> rfl
@[simp] theorem State.setPending_pendInc (s : State) (x : Source) :
    (s.setPending x).pendInc = (x == .inc || s.pendInc) := by cases x <;> rfl
@[simp] theorem State.setPending_pendDec (s : State) (x : Source) :
    (s.setPending x).pendDec = (x == .dec || s.pendDec) := by cases x <;> rfl
@[simp] theorem State.setPending_pendAdc (s : State) (x : Source) :
    (s.setPending x).pendAdc = (x == .adc || s.pendAdc) := by cases x <;> rfl
@[simp] theorem State.setPending_adcData (s : State) (x : Source) :
    (s.setPending x).adcData = s.adcData := by cases x <;> rfl
@[simp] theorem State.setPending_displayPort (s : State) (x : Source) :
    (s.setPending x).displayPort = s.displayPort := by cases x <;> rfl
@[simp] theorem State.setPending_mainPC (s : State) (x : Source) :
    (s.setPending x).mainPC = s.mainPC := by cases x <;> rfl
@[simp] theorem State.setPending_te (s : State) (x : Source) :
    (s.setPending x).te = s.te := by cases x <;> rfl
@[simp] theorem State.setPending_tc (s : State) (x : Source) :
    (s.setPending x).tc = s.tc := by cases x <;> rfl
@[simp] theorem State.setPending_ti (s : State) (x : Source) :
    (s.setPending x).ti = s.ti := by cases x <;> rfl
@[simp] theorem State.setPending_tj (s : State) (x : Source) :
    (s.setPending x).tj = s.tj := by cases x <;> rfl
@[simp] theorem State.setPending_modePin (s : State) (x : Source) :
    (s.setPending x).modePin = s.modePin := by cases x <;> rfl
@[simp] theorem State.setPending_incPin (s : State) (x : Source) :
    (s.setPending x).incPin = s.incPin := by cases x <;> rfl
@[simp] theorem State.setPending_decPin (s : State) (x : Source) :
    (s.setPending x).decPin = s.decPin := by cases x <;> rfl
@[simp] theorem State.setPending_portTrace (s : State) (x : Source) :
    (s.setPending x).portTrace = s.portTrace := by cases x <;> rfl
@[simp] theorem State.setPending_schedule (s : State) (x : Source) :
    (s.setPending x).schedule = s.schedule := by cases x <;> rfl
@[simp] theorem State.setPending_draws (s : State) (x : Source) :
    (s.setPending x).draws = s.draws := by cases x <;> rfl

/-! ### State.clearPending -/

@[simp] theorem State.clearPending_cfg (s : State) (x : Source) :
    (s.clearPending x).cfg = s.cfg := by cases x <;> rfl
@[simp] theorem State.clearPending_mode (s : State) (x : Source) :
    (s.clearPending x).mode = s.mode := by cases x <;> rfl
@[simp] theorem State.clearPending_pressCount (s : State) (x : Source) :
    (s.clearPending x).pressCount = s.pressCount := by cases x <;> rfl
@[simp] theorem State.clearPending_autoCounter (s : State) (x : Source) :
    (s.clearPending x).autoCounter = s.autoCounter := by cases x <;> rfl
@[simp] theorem State.clearPending_increaseCounter (s : State) (x : Source) :
    (s.clearPending x).increaseCounter = s.increaseCounter := by cases x <;> rfl
@[simp] theorem State.clearPending_decreaseCounter (s : State) (x : Source) :
    (s.clearPending x).decreaseCounter = s.decreaseCounter := by cases x <;> rfl
@[simp] theorem State.clearPending_analogReading (s : State) (x : Source) :
    (s.clearPending x).analogReading = s.analogReading := by cases x <;> rfl
@[simp] theorem State.clearPending_displayValue (s : State) (x : Source) :
    (s.clearPending x).displayValue = s.displayValue := by cases x <;> rfl
@[simp] theorem State.clearPending_digits (s : State) (x : Source) :
    (s.clearPending x).digits = s.digits := by cases x <;> rfl
@[simp] theorem State.clearPending_scanIndex (s : State) (x : Source) :
    (s.clearPending x).scanIndex = s.scanIndex := by cases x <;> rfl
@[simp] theorem State.clearPending_tickCount (s : State) (x : Source) :
    (s.clearPending x).tickCount = s.tickCount := by cases x <;> rfl
@[simp] theorem State.clearPending_btnPrev (s : State) (x : Source) :
    (s.clearPending x).btnPrev = s.btnPrev := by cases x <;> rfl
@[simp] theorem State.clearPending_btnCur (s : State) (x : Source) :
    (s.clearPending x).btnCur = s.btnCur := by cases x <;> rfl
@[simp] theorem State.clearPending_incEnabled (s : State) (x : Source) :
    (s.clearPending x).incEnabled = s.incEnabled := by cases x <;> rfl
@[simp] theorem State.clearPending_decEnabled (s : State) (x : Source) :
    (s.clearPending x).decEnabled = s.decEnabled := by cases x <;> rfl
@[simp] theorem State.clearPending_adcEnabled (s : State) (x : Source) :
    (s.clearPending x).adcEnabled = s.adcEnabled := by cases x <;> rfl
@[simp] theorem State.clearPending_timerRunning (s : State) (x : Source) :
    (s.clearPending x).timerRunning = s.timerRunning := by cases x <;> rfl
@[simp] theorem State.clearPending_pendTick (s : State) (x : Source) :
    (s.clearPending x).pendTick = (x != .tick && s.pendTick) := by cases x <;> rfl
@[simp] theorem State.clearPending_pendInc (s : State) (x : Source) :
    (s.clearPending x).pendInc = (x != .inc && s.pendInc) := by cases x <;> rfl
@[simp] theorem State.clearPending_pendDec (s : State) (x : Source) :
    (s.clearPending x).pendDec = (x != .dec && s.pendDec) := by cases x <;> rfl
@[simp] theorem State.clearPending_pendAdc (s : State) (x : Source) :
    (s.clearPending x).pendAdc = (x != .adc && s.pendAdc) := by cases x <;> rfl
@[simp] theorem State.clearPending_adcData (s : State) (x : Source) :
    (s.clearPending x).adcData = s.adcData := by cases x <;> rfl
@[simp] theorem State.clearPending_displayPort (s : State) (x : Source) :
    (s.clearPending x).displayPort = s.displayPort := by cases x <;> rfl
@[simp] theorem State.clearPending_mainPC (s : State) (x : Source) :
    (s.clearPending x).mainPC = s.mainPC := by cases x <;> rfl
@[simp] theorem State.clearPending_te (s : State) (x : Source) :
    (s.clearPending x).te = s.te := by cases x <;> rfl
@[simp] theorem State.clearPending_tc (s : State) (x : Source) :
    (s.clearPending x).tc = s.tc := by cases x <;> rfl
@[simp] theorem State.clearPending_ti (s : State) (x : Source) :
    (s.clearPending x).ti = s.ti := by cases x <;> rfl
@[simp] theorem State.clearPending_tj (s : State) (x : Source) :
    (s.clearPending x).tj = s.tj := by cases x <;> rfl
@[simp] theorem State.clearPending_modePin (s : State) (x : Source) :
    (s.clearPending x).modePin = s.modePin := by cases x <;> rfl
@[simp] theorem State.clearPending_incPin (s : State) (x : Source) :
    (s.clearPending x).incPin = s.incPin := by cases x <;> rfl
@[simp] theorem State.clearPending_decPin (s : State) (x : Source) :
    (s.clearPending x).decPin = s.decPin := by cases x <;> rfl
@[simp] theorem State.clearPending_portTrace (s : State) (x : Source) :
    (s.clearPending x).portTrace = s.portTrace := by cases x <;> rfl
@[simp] theorem State.clearPending_schedule (s : State) (x : Source) :
    (s.clearPending x).schedule = s.schedule := by cases x <;> rfl
@[simp] theorem State.clearPending_draws (s : State) (x : Source) :
    (s.clearPending x).draws = s.draws := by cases x <;> rfl

/-! ### State.handlerReturn, pending -/

@[simp] theorem State.handlerReturn_eq (s : State) : s.handlerReturn = s := rfl
@[simp] theorem State.pending_setPending_self (s : State) (x : Source) : (s.setPending x).pending x = true := by
  cases x <;> rfl
@[simp] theorem State.pending_clearPending_self (s : State) (x : Source) : (s.clearPending x).pending x = false := by
  cases x <;> rfl
theorem State.pending_clearPending_other (s : State) (x y : Source) (h : y ≠ x) :
    (s.clearPending x).pending y = s.pending y := by
  cases x <;> cases y <;> simp_all [State.clearPending, State.pending]

end Sys2Proof.Machine
end

