-- ==== Sys2Proof/Laws/Ops.lean ====
section
/-! SUPPORT. Each shared operation said once: when it answers a next state and what that state is. -/

namespace Sys2Proof.Machine

/-! ### The range check -/

/-- The declared ranges, one by one (R10). -/
theorem inRange_iff (s : State) : s.inRange = true ↔
    s.autoCounter.toNat ≤ 159 ∧ s.increaseCounter.toNat ≤ 159 ∧ s.decreaseCounter.toNat ≤ 159
      ∧ s.analogReading.toNat ≤ 999 ∧ s.displayValue.toNat ≤ 999
      ∧ s.digits.d0.toNat ≤ 9 ∧ s.digits.d1.toNat ≤ 9 ∧ s.digits.d2.toNat ≤ 9 ∧ s.digits.d3.toNat ≤ 9
      ∧ s.scanIndex.toNat ≤ 3 ∧ s.tickCount < 2 ^ tickW s.cfg := by
  simp [State.inRange, and_assoc]

theorem guarded_inRange {s : State} (h : s.inRange = true) (a : Answer) : guarded s a = a := by
  simp [guarded, h]

theorem guarded_outOfRange {s : State} (h : s.inRange = false) (a : Answer) :
    guarded s a = .refused .stateOutOfRange := by
  simp [guarded, h]

/-- A guarded operation answers a next state only from a state in range, and then the operation's own. -/
theorem guarded_next {s t : State} {a : Answer} : guarded s a = .next t ↔ s.inRange = true ∧ a = .next t := by
  unfold guarded
  split <;> simp_all

theorem guarded_not_fault {s : State} {a : Answer} {r : Fault} (h : a ≠ .fault r) : guarded s a ≠ .fault r := by
  unfold guarded
  split
  · exact h
  · simp

/-! ### Format L -/

/-- An operation of format L answers a next state exactly on a level, and then its own (R58). -/
theorem withLevel_next {arg : Byte} {op : Bool → State} {t : State} :
    withLevel arg op = .next t ↔ ∃ l, levelOperand arg = some l ∧ t = op l := by
  unfold withLevel
  split <;> rename_i h <;> simp [h, eq_comm]

theorem withLevel_not_fault (arg : Byte) (op : Bool → State) (r : Fault) : withLevel arg op ≠ .fault r := by
  unfold withLevel
  split <;> simp

/-! ### Handlers and micro-steps -/

/-- A handler answers a next state exactly when the state is in range and its flag is 1; that state is its body's on the state
with the flag cleared (R144, R145). -/
theorem takeInterrupt_next {x : Source} {body : State → State} {s t : State} :
    takeInterrupt x body s = .next t ↔ s.inRange = true ∧ s.pending x = true ∧ t = body (s.clearPending x) := by
  unfold takeInterrupt
  rw [guarded_next]
  by_cases hp : s.pending x = true
  · simp only [hp, if_true, State.handlerReturn_eq, Host.Outcome.next.injEq, true_and]
    exact and_congr_right fun _ => eq_comm
  · simp [hp]

theorem takeInterrupt_not_fault (x : Source) (body : State → State) (s : State) (r : Fault) :
    takeInterrupt x body s ≠ .fault r := by
  unfold takeInterrupt
  apply guarded_not_fault
  split <;> simp

/-- A micro-step answers a next state exactly when the state is in range and MainPC is its index; that state is its body's
(R60). -/
theorem microStep_next {n : BitVec 4} {body : State → State} {s t : State} :
    microStep n body s = .next t ↔ s.inRange = true ∧ s.mainPC = n ∧ t = body s := by
  unfold microStep
  rw [guarded_next]
  by_cases hp : s.mainPC = n
  · simp only [hp, if_true, Host.Outcome.next.injEq, true_and]
    exact and_congr_right fun _ => eq_comm
  · simp [hp]

theorem microStep_not_fault (n : BitVec 4) (body : State → State) (s : State) (r : Fault) :
    microStep n body s ≠ .fault r := by
  unfold microStep
  apply guarded_not_fault
  split <;> simp

/-- M.ANA.WR answers a next state exactly when the state is in range, MainPC is 8 and t.i names a position (R123). -/
theorem execMAnaWr_next {s t : State} :
    execMAnaWr s = .next t ↔ s.inRange = true ∧ s.mainPC = 8#4 ∧ s.ti.toNat ≤ 3 ∧ t = (s.light s.ti).goto 9#4 := by
  unfold execMAnaWr
  rw [guarded_next]
  by_cases hp : s.mainPC = 8#4
  · by_cases hi : s.ti.toNat ≤ 3
    · simp only [hp, hi, if_true, Host.Outcome.next.injEq, true_and]
      exact and_congr_right fun _ => eq_comm
    · simp [hp, hi]
  · simp [hp]

/-! ### Events -/

/-- What an event does to a state: it sets the source's flag, or nothing (R137 to R141). -/
theorem latch_cases (s : State) (x : Source) (event : Bool) :
    (event = true ∧ s.enabled x = true ∧ s.latch x event = s.setPending x)
      ∨ ((event = false ∨ s.enabled x = false) ∧ s.latch x event = s) := by
  unfold State.latch
  cases event <;> cases h : s.enabled x <;> simp

/-- What a completed conversion does to a state (R105). -/
theorem complete_cases (s : State) (sample : Byte) :
    (s.adcEnabled = true ∧ s.complete sample = { s with adcData := sample, pendAdc := true })
      ∨ (s.adcEnabled = false ∧ s.complete sample = s) := by
  unfold State.complete State.latch State.enabled State.setPending
  cases h : s.adcEnabled <;> simp

/-- What M.TRANS does to the state before it moves on (R126 to R130). -/
theorem transition_cases (s : State) :
    (s.mode = .auto ∧ s.pressCount = 1#2
        ∧ s.transition = { s with mode := .increase, incEnabled := true, decEnabled := true })
      ∨ (s.mode = .increase ∧ s.pressCount = 2#2 ∧ s.transition = { s with mode := .decrease })
      ∨ (s.mode = .decrease ∧ s.pressCount = 3#2 ∧ s.transition = { s with mode := .analog, adcEnabled := true })
      ∨ (s.mode = .analog ∧ s.pressCount = 0#2 ∧ s.transition = { s with mode := .auto, autoCounter := 0#8 })
      ∨ (s.pressCount ≠ s.mode.code + 1#2 ∧ s.transition = s) := by
  unfold State.transition State.enableEdges State.armAdc
  cases h : s.mode <;> simp only <;> split <;> simp_all [Mode.code]

/-- What M.PRESS does to the state before it moves on (R116). -/
theorem countPress_eq (s : State) :
    s.countPress = { s with pressCount := if s.te then nextPress s.pressCount else s.pressCount } := by
  unfold State.countPress
  split <;> rfl

/-! ### Fetch and step -/

theorem fetch_scheduled {s : State} {w : EventWord} {rest : List EventWord} (h : s.schedule = w :: rest) :
    s.fetch = (w, { s with schedule := rest }) := by
  simp [State.fetch, h]

theorem fetch_empty {s : State} (h : s.schedule = []) : s.fetch = (microWord s.mainPC, s) := by
  simp [State.fetch, h]

/-- The fetch changes the schedule only. -/
theorem fetch_state (s : State) : s.fetch.2 = { s with schedule := s.schedule.tail } := by
  unfold State.fetch
  split <;> rename_i h <;> simp [h]
  rw [← h]

/-- A step that answers a next state ran the operation its word decodes to. -/
theorem step_next {s t : State} (h : step s = .next t) :
    ∃ i, decode s.fetch.1 = some i ∧ exec i { s with schedule := s.schedule.tail } = .next t := by
  unfold step at h
  split at h
  · rename_i i hi
    exact ⟨i, hi, by rw [← fetch_state]; exact h⟩
  · cases h

end Sys2Proof.Machine
end

