-- ==== Sys2Proof/Laws/Exec.lean ====
section
/-! SUPPORT. What any operation but RST can do, said once: if it answers a next state, the state was in range, the operation was
enabled, and the next state is its effect. Invariants and frames follow by cases on the operation. -/

namespace Sys2Proof.Machine

/-- The effect of an operation that runs, in the named updates of Machine/Ops.lean; RST is given apart. -/
def effect (i : Instr) (s : State) : State :=
  match i with
  | .rst => s
  | .dbPoll lvl => s.debounce (lvl == 1#8)
  | .muxScan => s.scanStep
  | .muxDig k => s.writeDigit (k.setWidth 2)
  | .tmrStart => { s with timerRunning := true }
  | .tmrStop => { s with timerRunning := false }
  | .tmrMatch => s.latch .tick true
  | .isrTick => tickBody (s.clearPending .tick)
  | .edgeEnable => s.enableEdges
  | .pinInc lvl => { s.latch .inc (qualifyingEdge s.incPin (lvl == 1#8)) with incPin := lvl == 1#8 }
  | .pinDec lvl => { s.latch .dec (qualifyingEdge s.decPin (lvl == 1#8)) with decPin := lvl == 1#8 }
  | .isrInc => incBody (s.clearPending .inc)
  | .isrDec => decBody (s.clearPending .dec)
  | .adcArm => s.armAdc
  | .adcEoc sample => s.complete sample
  | .isrAdc => adcBody (s.clearPending .adc)
  | .pinMode lvl => { s with modePin := lvl == 1#8 }
  | .mPoll => (s.debounce s.modePin).goto 1#4
  | .mPress => s.countPress.goto 2#4
  | .mSelect => State.goto { s with displayValue := s.valueSource } (afterSelect s.mode)
  | .mAutoCmp => State.goto { s with tc := thresholdReached s.cfg.tickCmp s.tickCount } 4#4
  | .mAutoClr => State.goto { s with tickCount := if s.tc then 0 else s.tickCount } 5#4
  | .mAutoAdv => State.goto { s with autoCounter := if s.tc then nextAuto s.autoCounter else s.autoCounter } 11#4
  | .mAnaArm => s.armAdc.goto 7#4
  | .mAnaRd => State.goto { s with ti := s.scanIndex } 8#4
  | .mAnaWr => (s.light s.ti).goto 9#4
  | .mAnaRd2 => State.goto { s with tj := s.scanIndex } 10#4
  | .mAnaInc => State.goto { s with scanIndex := nextPosition s.tj } 11#4
  | .mTrans => s.transition.goto 12#4
  | .mDig0 => (s.writeDigit 0#2).goto 13#4
  | .mDig1 => (s.writeDigit 1#2).goto 14#4
  | .mDig2 => (s.writeDigit 2#2).goto 15#4
  | .mDig3 => (s.writeDigit 3#2).goto 0#4

theorem withLevel_next_effect {arg : Byte} {op : Bool → State} {t : State} (h : withLevel arg op = .next t) :
    isLevel arg = true ∧ t = op (arg == 1#8) := by
  obtain ⟨l, hl, rfl⟩ := withLevel_next.1 h
  rcases levelOperand_eq_some hl with ⟨rfl, rfl⟩ | ⟨rfl, rfl⟩ <;> exact ⟨rfl, rfl⟩

/-- The inversion of exec: a next state of any operation but RST comes from a state in range, by a well-formed operation that is
enabled (M.ANA.WR with t.i a position), and is the operation's effect. -/
theorem exec_next {i : Instr} {s t : State} (hi : i ≠ .rst) (h : exec i s = .next t) :
    s.inRange = true ∧ i.wellFormed = true ∧ enabledIn i s = true ∧ (i = .mAnaWr → s.ti.toNat ≤ 3) ∧ t = effect i s := by
  cases i <;> simp only [exec] at h
  case rst => exact absurd rfl hi
  case dbPoll lvl =>
    obtain ⟨hs, h⟩ := guarded_next.1 h
    obtain ⟨hl, rfl⟩ := withLevel_next_effect h
    exact ⟨hs, hl, rfl, by simp, rfl⟩
  case pinInc lvl =>
    obtain ⟨hs, h⟩ := guarded_next.1 h
    obtain ⟨hl, rfl⟩ := withLevel_next_effect h
    exact ⟨hs, hl, rfl, by simp, rfl⟩
  case pinDec lvl =>
    obtain ⟨hs, h⟩ := guarded_next.1 h
    obtain ⟨hl, rfl⟩ := withLevel_next_effect h
    exact ⟨hs, hl, rfl, by simp, rfl⟩
  case pinMode lvl =>
    obtain ⟨hs, h⟩ := guarded_next.1 h
    obtain ⟨hl, rfl⟩ := withLevel_next_effect h
    exact ⟨hs, hl, rfl, by simp, rfl⟩
  case muxDig k =>
    obtain ⟨hs, h⟩ := guarded_next.1 h
    split at h
    · rename_i j hj
      obtain ⟨hk, rfl⟩ := digitOperand_eq_some hj
      cases h
      exact ⟨hs, by simpa [Instr.wellFormed, isDigitIndex] using hk, rfl, by simp, rfl⟩
    · cases h
  case mAnaWr =>
    obtain ⟨hs, hp, hi, rfl⟩ := execMAnaWr_next.1 h
    exact ⟨hs, rfl, by simp [enabledIn, agentClass, hp], fun _ => hi, rfl⟩
  case isrTick =>
    obtain ⟨hs, hp, rfl⟩ := takeInterrupt_next.1 h
    exact ⟨hs, rfl, hp, by simp, rfl⟩
  case isrInc =>
    obtain ⟨hs, hp, rfl⟩ := takeInterrupt_next.1 h
    exact ⟨hs, rfl, hp, by simp, rfl⟩
  case isrDec =>
    obtain ⟨hs, hp, rfl⟩ := takeInterrupt_next.1 h
    exact ⟨hs, rfl, hp, by simp, rfl⟩
  case isrAdc =>
    obtain ⟨hs, hp, rfl⟩ := takeInterrupt_next.1 h
    exact ⟨hs, rfl, hp, by simp, rfl⟩
  all_goals first
    | (obtain ⟨hs, h⟩ := guarded_next.1 h
       cases h
       exact ⟨hs, rfl, rfl, by simp, rfl⟩)
    | (obtain ⟨hs, hp, rfl⟩ := microStep_next.1 h
       exact ⟨hs, rfl, by simp [enabledIn, agentClass, hp], by simp, rfl⟩)

/-- What RST answers: the reset table, with free values in AdcData and the temporaries (R156). -/
theorem exec_rst (s : State) : exec .rst s = .next { State.resetWith s.cfg with
    adcData := Config.freeByte s.draws, ti := Config.freeByte (s.draws + 1), tj := Config.freeByte (s.draws + 2)
    te := Config.freeBit s.draws, tc := Config.freeBit (s.draws + 1)
    draws := s.draws + 3, schedule := s.schedule } := rfl

/-! ### Sequences of operations -/

@[simp] theorem execAll_nil (s : State) : execAll [] s = some s := rfl

/-- A sequence goes on from the state its first operation leaves. -/
theorem execAll_cons_next {i : Instr} {is : List Instr} {s t : State} (h : exec i s = .next t) :
    execAll (i :: is) s = execAll is t := by
  simp [execAll, h]

/-- A sequence in two parts: the second runs from where the first ends. -/
theorem execAll_append (is js : List Instr) (s : State) : execAll (is ++ js) s = (execAll is s).bind (execAll js) := by
  induction is generalizing s with
  | nil => rfl
  | cons i is ih =>
    simp only [List.cons_append, execAll]
    cases exec i s with
    | next t => exact ih t
    | fault _ => rfl
    | refused _ => rfl

@[simp] theorem tickRounds_nil (s : State) : tickRounds [] s = some s := rfl

/-- Rounds in two parts: the second part runs from where the first ends. -/
theorem tickRounds_append (rs qs : List TickRound) (s : State) :
    tickRounds (rs ++ qs) s = (tickRounds rs s).bind (tickRounds qs) := by
  induction rs generalizing s with
  | nil => rfl
  | cons r rs ih =>
    simp only [List.cons_append, tickRounds, Option.bind_assoc]
    congr 1; funext t; congr 1; funext t; congr 1; funext t; congr 1; funext t; congr 1; funext t
    exact ih t

end Sys2Proof.Machine
end

