-- ==== Sys2Proof/Laws/PerInstr.lean ====
section
/-! SUPPORT. One statement about every operation, proved per constructor: the event word of a well-formed operation is
covered by the operation's own row of the opcode map (spec/30_encoding.md R57, R61). -/

namespace Sys2Proof.Laws

/-- The encoding of a well-formed operation matches its row of the opcode map. -/
def EncodesItsRow.Statement (i : Instr) : Prop :=
  i.wellFormed = true → i.row ∈ opcodeMap ∧ i.row.covers (encode i) = true

theorem EncodesItsRow.rst : Statement .rst := by
  unfold Statement
  decide

theorem EncodesItsRow.dbPoll : ∀ lvl : Byte, Statement (.dbPoll lvl) := by
  unfold Statement
  decide

theorem EncodesItsRow.muxScan : Statement .muxScan := by
  unfold Statement
  decide

theorem EncodesItsRow.muxDig : ∀ k : Byte, Statement (.muxDig k) := by
  unfold Statement
  decide

theorem EncodesItsRow.tmrStart : Statement .tmrStart := by
  unfold Statement
  decide

theorem EncodesItsRow.tmrStop : Statement .tmrStop := by
  unfold Statement
  decide

theorem EncodesItsRow.tmrMatch : Statement .tmrMatch := by
  unfold Statement
  decide

theorem EncodesItsRow.isrTick : Statement .isrTick := by
  unfold Statement
  decide

theorem EncodesItsRow.edgeEnable : Statement .edgeEnable := by
  unfold Statement
  decide

theorem EncodesItsRow.pinInc : ∀ lvl : Byte, Statement (.pinInc lvl) := by
  unfold Statement
  decide

theorem EncodesItsRow.pinDec : ∀ lvl : Byte, Statement (.pinDec lvl) := by
  unfold Statement
  decide

theorem EncodesItsRow.isrInc : Statement .isrInc := by
  unfold Statement
  decide

theorem EncodesItsRow.isrDec : Statement .isrDec := by
  unfold Statement
  decide

theorem EncodesItsRow.adcArm : Statement .adcArm := by
  unfold Statement
  decide

theorem EncodesItsRow.adcEoc : ∀ s : Byte, Statement (.adcEoc s) := by
  unfold Statement
  decide

theorem EncodesItsRow.isrAdc : Statement .isrAdc := by
  unfold Statement
  decide

theorem EncodesItsRow.pinMode : ∀ lvl : Byte, Statement (.pinMode lvl) := by
  unfold Statement
  decide

theorem EncodesItsRow.mPoll : Statement .mPoll := by
  unfold Statement
  decide

theorem EncodesItsRow.mPress : Statement .mPress := by
  unfold Statement
  decide

theorem EncodesItsRow.mSelect : Statement .mSelect := by
  unfold Statement
  decide

theorem EncodesItsRow.mAutoCmp : Statement .mAutoCmp := by
  unfold Statement
  decide

theorem EncodesItsRow.mAutoClr : Statement .mAutoClr := by
  unfold Statement
  decide

theorem EncodesItsRow.mAutoAdv : Statement .mAutoAdv := by
  unfold Statement
  decide

theorem EncodesItsRow.mAnaArm : Statement .mAnaArm := by
  unfold Statement
  decide

theorem EncodesItsRow.mAnaRd : Statement .mAnaRd := by
  unfold Statement
  decide

theorem EncodesItsRow.mAnaWr : Statement .mAnaWr := by
  unfold Statement
  decide

theorem EncodesItsRow.mAnaRd2 : Statement .mAnaRd2 := by
  unfold Statement
  decide

theorem EncodesItsRow.mAnaInc : Statement .mAnaInc := by
  unfold Statement
  decide

theorem EncodesItsRow.mTrans : Statement .mTrans := by
  unfold Statement
  decide

theorem EncodesItsRow.mDig0 : Statement .mDig0 := by
  unfold Statement
  decide

theorem EncodesItsRow.mDig1 : Statement .mDig1 := by
  unfold Statement
  decide

theorem EncodesItsRow.mDig2 : Statement .mDig2 := by
  unfold Statement
  decide

theorem EncodesItsRow.mDig3 : Statement .mDig3 := by
  unfold Statement
  decide

end Sys2Proof.Laws
end

