-- ==== Sys2Proof/Machine/Trace.lean ====
section
/-! DEFINITION. Traces as the spec writes them: the written form of an operation (spec/30_encoding.md R67) and the
pseudo-operations, each a sequence of operations with no encoding of its own (R68). No operation's meaning uses them. -/

namespace Sys2Proof.Machine

/-- The operand of an operation, where its format has one (R57). -/
def operandOf : Instr → Option Byte
  | .dbPoll lvl => some lvl
  | .muxDig k => some k
  | .pinInc lvl => some lvl
  | .pinDec lvl => some lvl
  | .adcEoc s => some s
  | .pinMode lvl => some lvl
  | .rst | .muxScan | .tmrStart | .tmrStop | .tmrMatch | .isrTick | .edgeEnable | .isrInc | .isrDec | .adcArm | .isrAdc
  | .mPoll | .mPress | .mSelect | .mAutoCmp | .mAutoClr | .mAutoAdv | .mAnaArm | .mAnaRd | .mAnaWr | .mAnaRd2 | .mAnaInc
  | .mTrans | .mDig0 | .mDig1 | .mDig2 | .mDig3 => none

/-- One line of a trace: the mnemonic, then the operand in decimal (R67). -/
def writtenForm (i : Instr) : String :=
  match operandOf i with
  | some a => i.row.mnemonic ++ " " ++ Nat.repr a.toNat
  | none => i.row.mnemonic

/-- The substep of an iteration, by the mode M.SELECT sees (R68, R113). -/
def substepOf : Mode → List Instr
  | .auto => [.mAutoCmp, .mAutoClr, .mAutoAdv]
  | .increase => []
  | .decrease => []
  | .analog => [.mAnaArm, .mAnaRd, .mAnaWr, .mAnaRd2, .mAnaInc]

/-- MAIN.ITER, with the mode at M.SELECT: one whole iteration of the main loop (R68). -/
def mainIterTrace (m : Mode) : List Instr :=
  [.mPoll, .mPress, .mSelect] ++ substepOf m ++ [.mTrans, .mDig0, .mDig1, .mDig2, .mDig3]

/-- MUX.DECOMP: the digit decomposition of DisplayValue (R68). -/
def muxDecompTrace : List Instr := [.muxDig 0#8, .muxDig 1#8, .muxDig 2#8, .muxDig 3#8]

/-- TICK: one periodic tick, serviced at once (R68). -/
def tickTrace : List Instr := [.tmrMatch, .isrTick]

/-- EDGE.INC: one clean press and release of the increase button, serviced at once (R68). -/
def edgeIncTrace : List Instr := [.pinInc 0#8, .isrInc, .pinInc 1#8]

/-- EDGE.DEC: the same for the decrease button (R68). -/
def edgeDecTrace : List Instr := [.pinDec 0#8, .isrDec, .pinDec 1#8]

/-- SAMPLE s: one completed conversion, serviced at once (R68). -/
def sampleTrace (s : Byte) : List Instr := [.adcEoc s, .isrAdc]

/-- PRESS.MODE, with the modes at the two M.SELECT: one clean press of the mode button seen by two iterations (R68). -/
def pressModeTrace (m m' : Mode) : List Instr := [.pinMode 0#8] ++ mainIterTrace m ++ [.pinMode 1#8] ++ mainIterTrace m'

/-- BOOT: reset and the boot sequence (R68, R157). -/
def bootTrace : List Instr := [.rst, .tmrStart]

end Sys2Proof.Machine
end

