-- ==== Sys2Proof/Tests/Slice0.lean ====
section
/-! SUPPORT. The model's own tests. Expected results are the vectors of spec/95_test_vectors.md (V1 to V10, parts of P5 and
P8) and the words of the opcode map; part 4 gives, for each statement that has hypotheses, a state and operands that meet
them. -/

namespace Sys2Proof.Machine.Tests

open Sys2Proof Sys2Proof.Machine

/-! ### Part 1. Well-formedness: each check refuses an ill-formed operation -/

theorem test_wf_dbPoll : (Instr.dbPoll 2#8).wellFormed = false := by decide
theorem test_wf_pinInc : (Instr.pinInc 2#8).wellFormed = false := by decide
theorem test_wf_pinDec : (Instr.pinDec 128#8).wellFormed = false := by decide
theorem test_wf_pinMode : (Instr.pinMode 255#8).wellFormed = false := by decide
theorem test_wf_muxDig : (Instr.muxDig 4#8).wellFormed = false := by decide
theorem test_wf_boundary :
    (Instr.dbPoll 1#8).wellFormed = true ∧ (Instr.muxDig 3#8).wellFormed = true
      ∧ (Instr.adcEoc 255#8).wellFormed = true := by decide

/-! ### Part 2. Decoding: the words of R61's map, written out, and the reserved words of V10 -/

theorem test_decode_system_and_debouncer :
    decode 0x0000#16 = some .rst ∧ decode 0x1000#16 = some (.dbPoll 0#8) ∧ decode 0x1001#16 = some (.dbPoll 1#8) := by decide

theorem test_decode_display :
    decode 0x2000#16 = some .muxScan ∧ decode 0x2100#16 = some (.muxDig 0#8) ∧ decode 0x2103#16 = some (.muxDig 3#8) := by
  decide

theorem test_decode_timer :
    decode 0x3000#16 = some .tmrStart ∧ decode 0x3100#16 = some .tmrStop ∧ decode 0x3200#16 = some .tmrMatch
      ∧ decode 0x3300#16 = some .isrTick := by decide

theorem test_decode_edge :
    decode 0x4000#16 = some .edgeEnable ∧ decode 0x4101#16 = some (.pinInc 1#8) ∧ decode 0x4200#16 = some (.pinDec 0#8)
      ∧ decode 0x4300#16 = some .isrInc ∧ decode 0x4400#16 = some .isrDec := by decide

theorem test_decode_analog :
    decode 0x5000#16 = some .adcArm ∧ decode 0x5180#16 = some (.adcEoc 128#8) ∧ decode 0x51FF#16 = some (.adcEoc 255#8)
      ∧ decode 0x5200#16 = some .isrAdc := by decide

theorem test_decode_mode_first_half :
    decode 0x6000#16 = some (.pinMode 0#8) ∧ decode 0x6100#16 = some .mPoll ∧ decode 0x6101#16 = some .mPress
      ∧ decode 0x6102#16 = some .mSelect ∧ decode 0x6103#16 = some .mAutoCmp ∧ decode 0x6104#16 = some .mAutoClr
      ∧ decode 0x6105#16 = some .mAutoAdv ∧ decode 0x6106#16 = some .mAnaArm ∧ decode 0x6107#16 = some .mAnaRd := by decide

theorem test_decode_mode_second_half :
    decode 0x6108#16 = some .mAnaWr ∧ decode 0x6109#16 = some .mAnaRd2 ∧ decode 0x610A#16 = some .mAnaInc
      ∧ decode 0x610B#16 = some .mTrans ∧ decode 0x610C#16 = some .mDig0 ∧ decode 0x610D#16 = some .mDig1
      ∧ decode 0x610E#16 = some .mDig2 ∧ decode 0x610F#16 = some .mDig3 := by decide

/-- V10's reserved words. -/
theorem test_decode_reserved :
    [0x0001#16, 0x1002#16, 0x2001#16, 0x2104#16, 0x3001#16, 0x3301#16, 0x4001#16, 0x4102#16, 0x4301#16, 0x5001#16,
      0x5201#16, 0x6002#16, 0x6110#16, 0x6200#16, 0x0100#16, 0x1100#16, 0x2200#16, 0x3400#16, 0x4500#16, 0x5300#16,
      0x7000#16, 0x8000#16, 0xF000#16, 0xFFFF#16].all (fun w => (decode w).isNone) = true := by decide

theorem test_decode_word_length : decodeTableWord 16 0x6103 = some .mAutoCmp ∧ decodeTableWord 16 0x10000 = none := by decide

/-! ### Part 3. One step, on the vectors of part 2 of the spec's file -/

/-- One step on the event word w: what f sees of the next state, none where the step is refused. -/
def look {α : Type} (w : EventWord) (s : State) (f : State → α) : Option α :=
  match step { s with schedule := [w] } with
  | .next t => some (f t)
  | .fault _ => none
  | .refused _ => none

/-- The reset state with the main loop at micro-step n. -/
def loopAt (n : BitVec 4) : State := { State.reset with mainPC := n }

/-- A state that shows 0, 1, 5, 9, every source enabled and pending. -/
def busy : State :=
  { State.reset with
    digits := ⟨0#4, 1#4, 5#4, 9#4⟩, displayValue := 159#10, incEnabled := true, decEnabled := true, adcEnabled := true,
    timerRunning := true, pendTick := true, pendInc := true, pendDec := true, pendAdc := true }

/-- V10: RST from the middle of an iteration. -/
theorem test_rst :
    look 0x0000#16 { busy with mode := .increase, mainPC := 1#4, scanIndex := 2#8, portTrace := [0xE0#8] }
      (fun t => (t.mode, t.mainPC, t.scanIndex, t.portTrace, t.incEnabled, t.decreaseCounter))
      = some (.auto, 0#4, 0#8, [], false, 159#8) := by decide

theorem test_rst_pins :
    look 0x0000#16 { busy with modePin := false, incPin := false, pendAdc := true }
      (fun t => (t.modePin, t.incPin, t.pendAdc, t.displayPort)) = some (true, true, false, 0xFF#8) := by decide

/-- V1, row 1 and row 4. -/
theorem test_dbPoll_press : look 0x1000#16 State.reset (fun t => (t.btnPrev, t.btnCur, t.te)) = some (false, true, true) := by
  decide
theorem test_dbPoll_release :
    look 0x1001#16 { State.reset with btnCur := true, te := true } (fun t => (t.btnPrev, t.btnCur, t.te))
      = some (true, false, false) := by decide

/-- V2, rows 2 and 4. -/
theorem test_muxScan_middle :
    look 0x2000#16 { busy with scanIndex := 1#8 } (fun t => (t.displayPort, t.scanIndex)) = some (0xD1#8, 2#8) := by
  decide
theorem test_muxScan_wraps :
    look 0x2000#16 { busy with scanIndex := 3#8 } (fun t => (t.portTrace, t.scanIndex)) = some ([0x79#8], 0#8) := by
  decide

/-- V3: DisplayValue 159 over the digits 0, 0, 9, 9; and 999. -/
theorem test_muxDig_hundreds :
    look 0x2101#16 { busy with digits := ⟨0#4, 0#4, 9#4, 9#4⟩ } (·.digits) = some ⟨0#4, 1#4, 9#4, 9#4⟩ := by decide
theorem test_muxDig_units :
    look 0x2103#16 { State.reset with displayValue := 502#10 } (·.digits) = some ⟨0#4, 0#4, 0#4, 2#4⟩ := by decide

/-- V4. -/
theorem test_tmrStart : look 0x3000#16 State.reset (·.timerRunning) = some true := by decide
theorem test_tmrStop :
    look 0x3100#16 { busy with tickCount := 3 } (fun t => (t.timerRunning, t.pendTick, t.tickCount))
      = some (false, true, 3) := by decide
theorem test_tmrMatch_stopped : look 0x3200#16 State.reset (·.pendTick) = some false := by decide
theorem test_tmrMatch_running : look 0x3200#16 { State.reset with timerRunning := true } (·.pendTick) = some true := by
  decide
theorem test_isrTick_wraps :
    look 0x3300#16 { busy with tickCount := 255, scanIndex := 3#8, digits := ⟨0#4, 0#4, 0#4, 7#4⟩ }
      (fun t => (t.pendTick, t.displayPort, t.scanIndex, t.tickCount)) = some (false, 0x77#8, 0#8, 0) := by decide
theorem test_isrTick_wraps_at_three_bits :
    look 0x3300#16 { busy with cfg := { Config.reference with tickWAbove3 := 0 }, tickCount := 7, timerRunning := false }
      (fun t => (t.pendTick, t.tickCount)) = some (false, 0) := by decide

/-- V5: an edge at a disabled source is not remembered, even with the line low. -/
theorem test_edgeEnable :
    look 0x4000#16 { State.reset with incPin := false } (fun t => (t.incEnabled, t.decEnabled, t.pendInc))
      = some (true, true, false) := by decide
theorem test_pinInc_edge :
    look 0x4100#16 { State.reset with incEnabled := true } (fun t => (t.incPin, t.pendInc, t.pendDec))
      = some (false, true, false) := by decide
theorem test_pinInc_disabled :
    look 0x4100#16 { State.reset with decEnabled := true } (fun t => (t.incPin, t.pendInc)) = some (false, false) := by
  decide
theorem test_pinDec_edge :
    look 0x4200#16 { State.reset with decEnabled := true } (fun t => (t.decPin, t.pendDec, t.pendInc))
      = some (false, true, false) := by decide
theorem test_pinDec_release :
    look 0x4201#16 { State.reset with decEnabled := true, decPin := false } (fun t => (t.decPin, t.pendDec))
      = some (true, false) := by decide

/-- V6. -/
theorem test_isrInc_saturates :
    look 0x4300#16 { busy with increaseCounter := 159#8, scanIndex := 3#8 }
      (fun t => (t.pendInc, t.increaseCounter, t.displayPort, t.scanIndex)) = some (false, 159#8, 0x79#8, 0#8) := by
  decide
theorem test_isrInc_refused : look 0x4300#16 { busy with pendInc := false } (·.increaseCounter) = none := by decide
theorem test_isrDec_saturates :
    look 0x4400#16 { busy with decreaseCounter := 0#8, scanIndex := 2#8, digits := ⟨0#4, 0#4, 0#4, 0#4⟩ }
      (fun t => (t.pendDec, t.decreaseCounter, t.displayPort, t.scanIndex)) = some (false, 0#8, 0xB0#8, 3#8) := by
  decide
theorem test_isrDec_counts_down : look 0x4400#16 { busy with decreaseCounter := 2#8 } (·.decreaseCounter) = some 1#8 := by
  decide

/-- V7. -/
theorem test_adcArm :
    look 0x5000#16 { State.reset with adcData := 7#8 } (fun t => (t.adcEnabled, t.adcData, t.pendAdc))
      = some (true, 7#8, false) := by decide
theorem test_adcEoc_overwrites :
    look 0x51FF#16 { busy with adcData := 128#8 } (fun t => (t.adcData, t.pendAdc)) = some (255#8, true) := by decide
theorem test_adcEoc_disabled : look 0x5180#16 State.reset (fun t => (t.adcData, t.pendAdc)) = some (0#8, false) := by
  decide
theorem test_isrAdc :
    look 0x5200#16 { busy with adcData := 128#8, analogReading := 777#10 }
      (fun t => (t.pendAdc, t.analogReading, t.displayValue, t.scanIndex)) = some (false, 501#10, 159#10, 0#8) := by
  decide
theorem test_isrAdc_refused : look 0x5200#16 State.reset (·.analogReading) = none := by decide

/-- V8, the ends and the middle; where the other candidates of R108 differ. -/
theorem test_rescale :
    rescaleNearest 0#8 = 0#10 ∧ rescaleNearest 1#8 = 4#10 ∧ rescaleNearest 127#8 = 498#10 ∧ rescaleNearest 128#8 = 501#10
      ∧ rescaleNearest 200#8 = 784#10 ∧ rescaleNearest 254#8 = 995#10 ∧ rescaleNearest 255#8 = 999#10 := by decide

/-- V9. -/
theorem test_pinMode :
    look 0x6000#16 State.reset (fun t => (t.modePin, t.btnCur)) = some (false, false) := by decide
theorem test_mPoll :
    look 0x6100#16 { State.reset with modePin := false } (fun t => (t.btnPrev, t.btnCur, t.te, t.mainPC))
      = some (false, true, true, 1#4) := by decide
theorem test_mPoll_held :
    look 0x6100#16 { State.reset with modePin := false, btnCur := true } (fun t => (t.btnPrev, t.btnCur, t.te))
      = some (true, true, false) := by decide
theorem test_mPress_wraps :
    look 0x6101#16 { loopAt 1#4 with te := true, pressCount := 3#2 } (fun t => (t.pressCount, t.mainPC))
      = some (0#2, 2#4) := by decide
theorem test_mPress_no_edge :
    look 0x6101#16 { loopAt 1#4 with pressCount := 2#2 } (fun t => (t.pressCount, t.mainPC)) = some (2#2, 2#4) := by
  decide
theorem test_mSelect_auto :
    look 0x6102#16 { loopAt 2#4 with autoCounter := 159#8, displayValue := 5#10 } (fun t => (t.displayValue, t.mainPC))
      = some (159#10, 3#4) := by decide
theorem test_mSelect_analog :
    look 0x6102#16 { loopAt 2#4 with mode := .analog, analogReading := 999#10 } (fun t => (t.displayValue, t.mainPC))
      = some (999#10, 6#4) := by decide
theorem test_mAutoCmp_eq : look 0x6103#16 { loopAt 3#4 with tickCount := 7 } (fun t => (t.tc, t.mainPC)) = some (false, 4#4) := by
  decide
theorem test_mAutoCmp_ge :
    look 0x6103#16 { loopAt 3#4 with cfg := { Config.reference with tickCmp := .ge }, tickCount := 7 } (·.tc)
      = some true := by decide
theorem test_mAutoClr :
    look 0x6104#16 { loopAt 4#4 with tc := true, tickCount := 6 } (fun t => (t.tickCount, t.mainPC)) = some (0, 5#4) := by
  decide
theorem test_mAutoClr_keeps : look 0x6104#16 { loopAt 4#4 with tickCount := 3 } (·.tickCount) = some 3 := by decide
theorem test_mAutoAdv_wraps :
    look 0x6105#16 { loopAt 5#4 with tc := true, autoCounter := 159#8 } (fun t => (t.autoCounter, t.mainPC))
      = some (0#8, 11#4) := by decide
theorem test_mAutoAdv_keeps : look 0x6105#16 { loopAt 5#4 with autoCounter := 17#8 } (·.autoCounter) = some 17#8 := by
  decide
theorem test_mAnaArm : look 0x6106#16 (loopAt 6#4) (fun t => (t.adcEnabled, t.mainPC)) = some (true, 7#4) := by decide
theorem test_mAnaRd : look 0x6107#16 { loopAt 7#4 with scanIndex := 2#8 } (fun t => (t.ti, t.mainPC)) = some (2#8, 8#4) := by
  decide
theorem test_mAnaWr :
    look 0x6108#16 { loopAt 8#4 with ti := 3#8, digits := ⟨0#4, 5#4, 0#4, 1#4⟩ }
      (fun t => (t.displayPort, t.portTrace, t.scanIndex, t.mainPC)) = some (0x71#8, [0x71#8], 0#8, 9#4) := by decide
theorem test_mAnaRd2 : look 0x6109#16 { loopAt 9#4 with scanIndex := 3#8 } (fun t => (t.tj, t.mainPC)) = some (3#8, 10#4) := by
  decide
theorem test_mAnaInc_wraps :
    look 0x610A#16 { loopAt 10#4 with tj := 3#8, scanIndex := 3#8 } (fun t => (t.scanIndex, t.mainPC))
      = some (0#8, 11#4) := by decide
theorem test_mAnaInc_overwrites :
    look 0x610A#16 { loopAt 10#4 with tj := 1#8, scanIndex := 0#8 } (·.scanIndex) = some 2#8 := by decide
theorem test_mTrans_to_increase :
    look 0x610B#16 { loopAt 11#4 with pressCount := 1#2 } (fun t => (t.mode, t.incEnabled, t.decEnabled, t.mainPC))
      = some (.increase, true, true, 12#4) := by decide
theorem test_mTrans_to_auto :
    look 0x610B#16 { loopAt 11#4 with mode := .analog, autoCounter := 77#8, tickCount := 7 }
      (fun t => (t.mode, t.autoCounter, t.tickCount)) = some (.auto, 0#8, 7) := by decide
theorem test_mDig0 :
    look 0x610C#16 { loopAt 12#4 with displayValue := 999#10, digits := ⟨7#4, 7#4, 7#4, 7#4⟩ }
      (fun t => (t.digits, t.mainPC)) = some (⟨0#4, 7#4, 7#4, 7#4⟩, 13#4) := by decide
theorem test_mDig1 :
    look 0x610D#16 { loopAt 13#4 with displayValue := 999#10, digits := ⟨0#4, 7#4, 7#4, 7#4⟩ }
      (fun t => (t.digits, t.mainPC)) = some (⟨0#4, 9#4, 7#4, 7#4⟩, 14#4) := by decide
theorem test_mDig2 :
    look 0x610E#16 { loopAt 14#4 with displayValue := 501#10, digits := ⟨0#4, 5#4, 7#4, 7#4⟩ }
      (fun t => (t.digits, t.mainPC)) = some (⟨0#4, 5#4, 0#4, 7#4⟩, 15#4) := by decide
theorem test_mDig3 :
    look 0x610F#16 { loopAt 15#4 with displayValue := 501#10, digits := ⟨0#4, 5#4, 0#4, 7#4⟩ }
      (fun t => (t.digits, t.mainPC)) = some (⟨0#4, 5#4, 0#4, 1#4⟩, 0#4) := by decide

/-- V9's refused rows and V10. -/
theorem test_micro_step_refused : look 0x6103#16 State.reset (·.mainPC) = none := by decide
theorem test_reserved_refused :
    [0x0001#16, 0x1002#16, 0x2104#16, 0x6110#16, 0xFFFF#16].all (fun w => (look w State.reset (·.mainPC)).isNone) = true := by
  decide

/-- With nothing scheduled, the step is the main loop's next micro-step (notes/assumptions/1.md). -/
theorem test_empty_schedule :
    (match step (loopAt 2#4) with | .next t => t.mainPC | .fault _ => 0#4 | .refused _ => 0#4) = 3#4 := by decide

/-- A placed word runs next, with a handler's flag set and MainPC moved (notes/assumptions/2.md). -/
theorem test_withFetchWord_handler :
    (match step (State.reset.withFetchWord 16 0x3300) with | .next t => t.tickCount | .fault _ => 0 | .refused _ => 0) = 1 := by
  decide
theorem test_withFetchWord_micro :
    (match step (State.reset.withFetchWord 16 0x610F) with | .next t => t.mainPC | .fault _ => 9#4 | .refused _ => 9#4)
      = 0#4 := by decide

/-- The first words of programs P1 and P2 and the edge, sample and decomposition sequences, from the pseudo-operations. -/
theorem test_trace_words :
    (bootTrace ++ tickTrace ++ mainIterTrace .auto).map encode
      = [0x0000#16, 0x3000#16, 0x3200#16, 0x3300#16, 0x6100#16, 0x6101#16, 0x6102#16, 0x6103#16, 0x6104#16, 0x6105#16,
         0x610B#16, 0x610C#16, 0x610D#16, 0x610E#16, 0x610F#16] := by decide
theorem test_trace_press :
    (pressModeTrace .auto .increase).map encode
      = [0x6000#16, 0x6100#16, 0x6101#16, 0x6102#16, 0x6103#16, 0x6104#16, 0x6105#16, 0x610B#16, 0x610C#16, 0x610D#16,
         0x610E#16, 0x610F#16, 0x6001#16, 0x6100#16, 0x6101#16, 0x6102#16, 0x610B#16, 0x610C#16, 0x610D#16, 0x610E#16,
         0x610F#16] := by decide
theorem test_trace_edges :
    (edgeIncTrace ++ edgeDecTrace ++ sampleTrace 128#8 ++ muxDecompTrace).map encode
      = [0x4100#16, 0x4300#16, 0x4101#16, 0x4200#16, 0x4400#16, 0x4201#16, 0x5180#16, 0x5200#16, 0x2100#16, 0x2101#16,
         0x2102#16, 0x2103#16] := by decide
theorem test_trace_written :
    writtenForm (.pinMode 0#8) = "PIN.MODE 0" ∧ writtenForm (.adcEoc 128#8) = "ADC.EOC 128" ∧ writtenForm .mTrans = "M.TRANS" := by
  decide

/-- A round with the tick matched and dispatched inside the iteration has 11 + 11 micro-steps less those before the dispatch. -/
theorem test_tickRound_rest :
    TickRound.rest ⟨0, 0, 0⟩ = 11 ∧ TickRound.rest ⟨3, 1, 0⟩ = 18 ∧ TickRound.rest ⟨11, 0, 1⟩ = 22 := by decide

/-! ### Part 4. Witnesses: states and operands that meet the hypotheses of each statement, clause by clause -/

/-- The main loop in Analog mode at micro-step n, all sources enabled and pending, temporaries in range. -/
def analogAt (n : BitVec 4) : State := { busy with mode := .analog, pressCount := 3#2, mainPC := n, ti := 3#8, tj := 3#8 }

theorem test_witness_encoding :
    (Instr.muxDig 3#8).wellFormed = true ∧ decode 0x2103#16 = some (.muxDig 3#8)
      ∧ (Instr.adcEoc 255#8).wellFormed = true ∧ decode 0x51FF#16 = some (.adcEoc 255#8) := by decide

/-- ReservedWordsAreRefused: 0x1002 and 0x7000 at the head of a schedule, covered by no row; 0x51FF, covered by one. -/
theorem test_witness_ReservedWordsAreRefused :
    { State.reset with schedule := [0x1002#16] }.schedule = 0x1002#16 :: [] ∧ 0x7000 ≤ (0x7000#16).toNat
      ∧ opcodeMap.all (fun r => !r.covers 0x1002#16 && !r.covers 0x7000#16) = true
      ∧ (Instr.adcEoc 0#8).row.covers 0x51FF#16 = true
      ∧ opcodeMap.contains (Instr.adcEoc 0#8).row = true := by decide

theorem test_witness_StepRunsTheDecodedOperation :
    { State.reset with schedule := [0x2000#16] }.schedule = 0x2000#16 :: [] ∧ decode 0x2000#16 = some .muxScan
      ∧ (loopAt 15#4).schedule = [] ∧ decode (0x6100#16 + (loopAt 15#4).mainPC.setWidth 16) = some .mDig3 := by decide

/-- OutOfRangeStatesAreRefused: one past the end of a range of each kind; and the ends themselves. -/
theorem test_witness_OutOfRangeStatesAreRefused :
    Instr.muxScan ≠ .rst ∧ { State.reset with increaseCounter := 160#8 }.inRange = false
      ∧ { State.reset with displayValue := 1000#10 }.inRange = false
      ∧ { State.reset with digits := ⟨0#4, 0#4, 0#4, 10#4⟩ }.inRange = false
      ∧ { State.reset with scanIndex := 4#8 }.inRange = false ∧ { State.reset with tickCount := 256 }.inRange = false
      ∧ { State.reset with increaseCounter := 159#8, displayValue := 999#10, scanIndex := 3#8, tickCount := 255 }.inRange
        = true := by decide

/-- OperationsRunExactlyWhenEnabled: a handler and a micro-step, enabled and not; M.ANA.WR with t.i = 3. -/
theorem test_witness_OperationsRunExactlyWhenEnabled :
    busy.inRange = true ∧ enabledIn .isrInc busy = true ∧ enabledIn .isrInc State.reset = false
      ∧ enabledIn .mTrans busy = false ∧ enabledIn (.pinInc 1#8) busy = true ∧ (Instr.pinInc 1#8).wellFormed = true
      ∧ (analogAt 8#4).inRange = true ∧ (analogAt 8#4).ti.toNat ≤ 3 ∧ enabledIn .mAnaWr (analogAt 8#4) = true := by
  decide

theorem test_witness_OperandsOutOfFormatAreRefused :
    State.reset.inRange = true ∧ (Instr.muxDig 4#8).wellFormed = false ∧ (Instr.dbPoll 2#8).wellFormed = false := by
  decide

theorem test_witness_PlacedWordsRunNext :
    State.reset.inRange = true ∧ decode 0x3300#16 = some .isrTick ∧ decode 0x6108#16 = some .mAnaWr
      ∧ State.reset.ti.toNat ≤ 3 := by decide

/-- MicroStepsFollowTheIterationTable: MainPC = n with t.i at 3 and at 4, and MainPC not n. -/
theorem test_witness_MicroStepsFollowTheIterationTable :
    (analogAt 8#4).inRange = true ∧ (analogAt 8#4).mainPC = 8#4 ∧ ¬ 3 < (analogAt 8#4).ti.toNat
      ∧ { analogAt 8#4 with ti := 4#8 }.inRange = true ∧ 3 < { analogAt 8#4 with ti := 4#8 }.ti.toNat
      ∧ (analogAt 7#4).mainPC ≠ 8#4 := by decide

theorem test_witness_mainLoopSound : (analogAt 8#4).mainLoopSound ∧ (analogAt 8#4).schedule = [] := by
  unfold State.mainLoopSound State.lockstep State.substepInMode State.tempsInRange; decide

/-- The statements about one operation at a micro-step: every MainPC, in a state in range. -/
theorem test_witness_everyMicroStep :
    (List.range 16).all (fun n => (analogAt (BitVec.ofNat 4 n)).inRange && (loopAt (BitVec.ofNat 4 n)).inRange) = true := by
  decide

/-- The statements about one operation, by clause: flags set and clear, sources enabled and not, both TICK_CMP. -/
theorem test_witness_flagsAndSources :
    busy.inRange = true ∧ State.reset.inRange = true ∧ busy.pendTick = true ∧ State.reset.pendTick = false
      ∧ busy.timerRunning = true ∧ State.reset.timerRunning = false ∧ busy.incEnabled = true ∧ busy.decEnabled = true
      ∧ busy.adcEnabled = true ∧ State.reset.adcEnabled = false ∧ State.reset.cfg.tickCmp = .eq
      ∧ { loopAt 3#4 with cfg := { Config.reference with tickCmp := .ge } }.cfg.tickCmp = .ge
      ∧ State.reset.cfg.segEncode = .bcd ∧ State.reset.cfg.rescale = .nearest := by decide

/-- The statements about levels, digit indices and displayed values, at the ends of their ranges. -/
theorem test_witness_operandRanges :
    (0#8).toNat ≤ 1 ∧ (1#8).toNat ≤ 1 ∧ (3#8).toNat ≤ 3 ∧ (999#10).toNat ≤ 999 ∧ (∀ l ∈ [0#8, 1#8], l.toNat ≤ 1)
      ∧ (0#8).toNat ≤ (255#8).toNat ∧ (254#8).toNat < (255#8).toNat := by decide

theorem test_witness_mSelect_modes :
    (loopAt 2#4).mode = .auto ∧ (analogAt 2#4).mode = .analog ∧ { loopAt 2#4 with mode := .increase }.inRange = true
      ∧ { loopAt 2#4 with mode := .decrease }.inRange = true := by decide

/-- TickBetweenCompareAndClearIsErased: program P8, and the last TickCount under ge. -/
theorem test_witness_TickBetweenCompareAndClearIsErased :
    { loopAt 3#4 with tickCount := 5, timerRunning := true }.inRange = true
      ∧ { loopAt 3#4 with cfg := { Config.reference with tickCmp := .ge }, tickCount := 255, timerRunning := true }.inRange
        = true := by decide

/-- TwoTicksBetweenComparesPassTheThreshold, under either TICK_CMP. -/
theorem test_witness_TwoTicksBetweenComparesPassTheThreshold :
    { loopAt 3#4 with tickCount := 4, timerRunning := true, pendTick := true }.inRange = true
      ∧ { loopAt 3#4 with cfg := { Config.reference with tickCmp := .ge }, tickCount := 4, timerRunning := true,
                          pendTick := true }.inRange = true := by decide

theorem test_witness_PressesBeforeOneDispatchMerge :
    busy.inRange = true ∧ busy.incEnabled = true ∧ busy.incPin = true ∧ busy.decEnabled = true ∧ busy.decPin = true
      ∧ busy.timerRunning = true ∧ busy.adcEnabled = true := by decide

/-- RescaleIsAdmissible, last clause: a function that is 0 at 0, stays at most 999 and never falls. -/
theorem test_witness_RescaleIsAdmissible :
    (fun a : Byte => a.setWidth 10) 0#8 = 0#10 ∧ (∀ a : Byte, ((fun a : Byte => a.setWidth 10) a).toNat ≤ 999)
      ∧ ∀ a b : Byte, a.toNat ≤ b.toNat →
        ((fun a : Byte => a.setWidth 10) a).toNat ≤ ((fun a : Byte => a.setWidth 10) b).toNat := by
  refine ⟨by decide, fun a => ?_, fun a b h => ?_⟩
  · have := a.isLt
    simp only [BitVec.toNat_setWidth]; omega
  · have := a.isLt
    have := b.isLt
    simp only [BitVec.toNat_setWidth]; omega

/-- HandlerScanInsideTheSplitScan (program P5) and SplitScanRefinesMuxScan. -/
theorem test_witness_splitScan :
    Source.tick ≠ .adc ∧ Source.inc ≠ .adc ∧ Source.dec ≠ .adc ∧ (analogAt 7#4).inRange = true
      ∧ (analogAt 7#4).mainPC = 7#4 ∧ (analogAt 7#4).pending .tick = true ∧ (analogAt 7#4).pending .inc = true
      ∧ (analogAt 7#4).pending .dec = true ∧ (analogAt 10#4).inRange = true ∧ (analogAt 10#4).mainPC = 10#4 := by
  decide

/-- MainIterationAdvancesTheModeCycle: with the button pressed, and held. -/
theorem test_witness_MainIterationAdvancesTheModeCycle :
    { analogAt 0#4 with modePin := false }.inRange = true ∧ (analogAt 0#4).schedule = [] ∧ (analogAt 0#4).mainPC = 0#4
      ∧ (analogAt 0#4).pressCount = (analogAt 0#4).mode.code ∧ (analogAt 0#4).btnCur = false := by decide

theorem test_witness_AutoCadenceUnderFastMainLoop :
    { State.reset with timerRunning := true }.inRange = true ∧ State.reset.mainPC = 0#4 ∧ State.reset.mode = .auto
      ∧ State.reset.pressCount = 0#2 ∧ State.reset.modePin = true ∧ State.reset.autoCounter = 0#8
      ∧ State.reset.tickCount = 0 := by decide

/-- HandlersLeaveTheMainLoopAsItWas and PendingHandlersCommute: two handlers that scan, and ISR.ADC beside one. -/
theorem test_witness_handlers :
    busy.inRange = true ∧ Source.tick ≠ .inc ∧ Source.tick ≠ .adc ∧ Source.inc ≠ .adc ∧ busy.pending .tick = true
      ∧ busy.pending .inc = true ∧ busy.pending .adc = true ∧ State.reset.pending .tick = false := by decide

/-- A step from s answers a next state. -/
def goesOn (s : State) : Bool := match step s with | .next _ => true | .fault _ => false | .refused _ => false

/-- What goesOn says, in the form the hypotheses of the invariants have. -/
theorem goesOn_next {s : State} (h : goesOn s = true) : ∃ t, step s = .next t := by
  unfold goesOn at h; cases hs : step s <;> simp_all

theorem test_witness_SourcesStayArmed : (analogAt 11#4).sourcesArmed ∧ ∃ t, step (analogAt 11#4) = .next t :=
  ⟨by unfold State.sourcesArmed; decide, goesOn_next (by decide)⟩

theorem test_witness_LockstepIsKept : (analogAt 8#4).mainLoopSound ∧ ∃ t, step (analogAt 8#4) = .next t :=
  ⟨test_witness_mainLoopSound.1, goesOn_next (by decide)⟩

theorem test_witness_RangesAreKept : busy.inRange = true ∧ ∃ t, step busy = .next t :=
  ⟨by decide, goesOn_next (by decide)⟩

theorem test_witness_DigitsStayCoherent : (loopAt 15#4).digitsCoherent ∧ ∃ t, step (loopAt 15#4) = .next t :=
  ⟨by unfold State.digitsCoherent; decide, goesOn_next (by decide)⟩

/-- PortBytesKeepOneEnableLow: a port that shows 0xD1, about to be written by M.ANA.WR. -/
theorem test_witness_PortBytesKeepOneEnableLow :
    { analogAt 8#4 with displayPort := 0xD1#8, portTrace := [0xD1#8] }.portSound
      ∧ ∃ t, step { analogAt 8#4 with displayPort := 0xD1#8, portTrace := [0xD1#8] } = .next t := by
  refine ⟨⟨?_, ?_⟩, goesOn_next (by decide)⟩
  · intro b hb
    obtain rfl : b = 0xD1#8 := by simpa using hb
    exact ⟨1, by decide, by decide⟩
  · simp

/-- ScanOrderIsKept: one position lit, the next scan step due. -/
theorem test_witness_ScanOrderIsKept :
    Instr.muxScan ≠ .mAnaWr ∧ Instr.muxScan ≠ .mAnaInc
      ∧ { busy with scanIndex := 1#8, displayPort := 0xE0#8, portTrace := [0xE0#8] }.scanInOrder
      ∧ ∃ t, exec .muxScan { busy with scanIndex := 1#8, displayPort := 0xE0#8, portTrace := [0xE0#8] } = .next t := by
  refine ⟨by decide, by decide, ⟨by decide, ?_⟩, ⟨_, rfl⟩⟩
  intro j b hj
  cases j with
  | zero =>
    obtain rfl : 0xE0#8 = b := by simpa using hj
    decide
  | succ j => simp at hj

/-- OnlyItsWritersChangeARegister and the last clause of RstRestoresTheResetTable: a handler that changes registers. -/
theorem test_witness_OnlyItsWritersChangeARegister :
    Instr.isrInc ≠ .rst ∧ (∃ t, exec .isrInc busy = .next t ∧ t.increaseCounter ≠ busy.increaseCounter
      ∧ t.scanIndex ≠ busy.scanIndex) ∧ busy.incEnabled = true := by
  refine ⟨by decide, ⟨_, rfl, by decide, by decide⟩, by decide⟩

/-- UnspecifiedValuesAreNeverSeen: two reset states that differ in all five unspecified registers, and their step; and two
states refused alike. -/
theorem test_witness_UnspecifiedValuesAreNeverSeen :
    sameButDead State.reset { State.reset with adcData := 255#8, te := true, tc := true, ti := 255#8, tj := 255#8 }
      ∧ (∃ t, step State.reset = .next t)
      ∧ sameButDead { State.reset with schedule := [0xFFFF#16] } { State.reset with ti := 9#8, schedule := [0xFFFF#16] }
      ∧ ∃ r, step { State.reset with schedule := [0xFFFF#16] } = .refused r := by
  refine ⟨?_, goesOn_next (by decide), ?_, ⟨_, rfl⟩⟩
  · unfold sameButDead; decide
  · unfold sameButDead; decide

end Sys2Proof.Machine.Tests
end

/-! ## Events, conversions and transitions as one record update each -/

namespace Sys2Proof.Machine

/-- An event can set its own source's flag and nothing else (R137 to R141). -/
theorem latch_eq (s : State) (x : Source) (event : Bool) : s.latch x event = { s with
    pendTick := s.pendTick || (x == .tick && event && s.timerRunning)
    pendInc := s.pendInc || (x == .inc && event && s.incEnabled)
    pendDec := s.pendDec || (x == .dec && event && s.decEnabled)
    pendAdc := s.pendAdc || (x == .adc && event && s.adcEnabled) } := by
  obtain ⟨⟩ := s
  cases x <;> cases event <;> simp [State.latch, State.setPending, State.enabled] <;> split <;> simp_all

/-- A completed conversion writes the sampler's data and flag only, and only while the sampler is enabled (R105). -/
theorem complete_eq (s : State) (sample : Byte) : s.complete sample = { s with
    adcData := if s.adcEnabled then sample else s.adcData
    pendAdc := s.pendAdc || s.adcEnabled } := by
  obtain ⟨hen, h⟩ | ⟨hen, h⟩ := complete_cases s sample <;> rw [h] <;> obtain ⟨⟩ := s <;> simp_all

/-- The mode that follows in the cycle of R111. -/
def Mode.next : Mode → Mode
  | .auto => .increase
  | .increase => .decrease
  | .decrease => .analog
  | .analog => .auto

theorem Mode.code_next (m : Mode) : m.next.code = m.code + 1#2 := by cases m <;> rfl

/-- The four rows of the transition table in one: the mode moves on when PressCount is one ahead of it (R126 to R130). -/
theorem transition_eq (s : State) : s.transition = { s with
    mode := if s.pressCount = s.mode.code + 1#2 then s.mode.next else s.mode
    autoCounter := if s.mode = .analog ∧ s.pressCount = 0#2 then 0#8 else s.autoCounter
    incEnabled := s.incEnabled || decide (s.mode = .auto ∧ s.pressCount = 1#2)
    decEnabled := s.decEnabled || decide (s.mode = .auto ∧ s.pressCount = 1#2)
    adcEnabled := s.adcEnabled || decide (s.mode = .decrease ∧ s.pressCount = 3#2) } := by
  unfold State.transition State.enableEdges State.armAdc
  cases h : s.mode <;> simp only <;> split
  all_goals obtain ⟨⟩ := s; simp_all [Mode.next, Mode.code]

/-! ## Ownership: the operations that can change a register (R10, R38) -/

/-- The operation leaves the register as it was, from every state. -/
def Keeps {α : Type} (reg : State → α) (i : Instr) : Prop := ∀ s, reg (effect i s) = reg s

/-- A register that changed was written by one of its owners. -/
theorem owner_of_change {α : Type} {reg : State → α} {i : Instr} {owned : Prop} (h : Keeps reg i ∨ owned)
    {s : State} (hne : reg (effect i s) ≠ reg s) : owned :=
  h.resolve_left fun hk => hne (hk s)

/-- The writers of R10's table, register by register: an operation keeps the register or is one of its owners. -/
structure Owners (i : Instr) : Prop where
  cfg : Keeps State.cfg i
  schedule : Keeps State.schedule i
  draws : Keeps State.draws i
  autoCounter : Keeps State.autoCounter i ∨ i = .mAutoAdv ∨ i = .mTrans
  increaseCounter : Keeps State.increaseCounter i ∨ i = .isrInc
  decreaseCounter : Keeps State.decreaseCounter i ∨ i = .isrDec
  analogReading : Keeps State.analogReading i ∨ i = .isrAdc
  displayValue : Keeps State.displayValue i ∨ i = .mSelect
  digits : Keeps State.digits i ∨ (∃ k, i = .muxDig k) ∨ i ∈ [Instr.mDig0, .mDig1, .mDig2, .mDig3]
  mode : Keeps State.mode i ∨ i = .mTrans
  pressCount : Keeps State.pressCount i ∨ i = .mPress
  scanIndex : Keeps State.scanIndex i ∨ i ∈ [Instr.muxScan, .isrTick, .isrInc, .isrDec, .mAnaInc]
  tickCount : Keeps State.tickCount i ∨ i = .isrTick ∨ i = .mAutoClr
  btnPrev : Keeps State.btnPrev i ∨ (∃ l, i = .dbPoll l) ∨ i = .mPoll
  btnCur : Keeps State.btnCur i ∨ (∃ l, i = .dbPoll l) ∨ i = .mPoll
  te : Keeps State.te i ∨ (∃ l, i = .dbPoll l) ∨ i = .mPoll
  incEnabled : Keeps State.incEnabled i ∨ i = .edgeEnable ∨ i = .mTrans
  decEnabled : Keeps State.decEnabled i ∨ i = .edgeEnable ∨ i = .mTrans
  adcEnabled : Keeps State.adcEnabled i ∨ i = .adcArm ∨ i = .mAnaArm ∨ i = .mTrans
  timerRunning : Keeps State.timerRunning i ∨ i = .tmrStart ∨ i = .tmrStop
  displayPort : Keeps State.displayPort i ∨ i ∈ [Instr.muxScan, .isrTick, .isrInc, .isrDec, .mAnaWr]
  portTrace : Keeps State.portTrace i ∨ i ∈ [Instr.muxScan, .isrTick, .isrInc, .isrDec, .mAnaWr]
  pendTick : Keeps State.pendTick i ∨ i = .tmrMatch ∨ i = .isrTick
  pendInc : Keeps State.pendInc i ∨ (∃ l, i = .pinInc l) ∨ i = .isrInc
  pendDec : Keeps State.pendDec i ∨ (∃ l, i = .pinDec l) ∨ i = .isrDec
  pendAdc : Keeps State.pendAdc i ∨ (∃ a, i = .adcEoc a) ∨ i = .isrAdc
  adcData : Keeps State.adcData i ∨ ∃ a, i = .adcEoc a
  mainPC : Keeps State.mainPC i ∨ ∃ n, agentClass i = .micro n
  tc : Keeps State.tc i ∨ i = .mAutoCmp
  ti : Keeps State.ti i ∨ i = .mAnaRd
  tj : Keeps State.tj i ∨ i = .mAnaRd2
  modePin : Keeps State.modePin i ∨ ∃ l, i = .pinMode l
  incPin : Keeps State.incPin i ∨ ∃ l, i = .pinInc l
  decPin : Keeps State.decPin i ∨ ∃ l, i = .pinDec l

/-- Every operation writes inside R10's table: its effect, a record update, names only registers it owns. -/
theorem owners (i : Instr) : Owners i := by
  cases i <;> constructor <;>
    simp [Keeps, agentClass, effect, latch_eq, complete_eq, transition_eq, countPress_eq, tickBody, incBody, decBody,
      adcBody]

/-- Settles O54: a changed register names its owner. -/
theorem onlyItsWritersChangeARegister : Obligations.OnlyItsWritersChangeARegister := by
  intro i s t hi h
  obtain ⟨-, -, -, -, rfl⟩ := exec_next hi h
  have own := owners i
  refine ⟨owner_of_change own.autoCounter, owner_of_change own.increaseCounter, owner_of_change own.decreaseCounter,
    owner_of_change own.analogReading, owner_of_change own.displayValue, owner_of_change own.digits,
    owner_of_change own.mode, owner_of_change own.pressCount, owner_of_change own.scanIndex,
    owner_of_change own.tickCount, ?samples, ?edges, owner_of_change own.adcEnabled, owner_of_change own.timerRunning,
    ?port, owner_of_change own.pendTick, owner_of_change own.pendInc, owner_of_change own.pendDec,
    owner_of_change own.pendAdc, owner_of_change own.adcData, owner_of_change own.mainPC, owner_of_change own.tc,
    owner_of_change own.ti, owner_of_change own.tj, owner_of_change own.modePin, owner_of_change own.incPin,
    owner_of_change own.decPin, own.cfg s, own.schedule s, own.draws s⟩
  case samples =>
    rintro (h | h | h)
    exacts [owner_of_change own.btnPrev h, owner_of_change own.btnCur h, owner_of_change own.te h]
  case edges =>
    rintro (h | h)
    exacts [owner_of_change own.incEnabled h, owner_of_change own.decEnabled h]
  case port =>
    rintro (h | h)
    exacts [owner_of_change own.displayPort h, owner_of_change own.portTrace h]

end Sys2Proof.Machine

/-! ## The digits of the display -/

namespace Sys2Proof.Machine

/-- Digits[k] is one of the four. -/
theorem Digits.get_cases (ds : Digits) (k : BitVec 2) :
    ds.get k = ds.d0 ∨ ds.get k = ds.d1 ∨ ds.get k = ds.d2 ∨ ds.get k = ds.d3 := by
  unfold Digits.get
  split <;> simp

/-- Writing digit k leaves every digit as it was or freshly computed from DisplayValue (R80). -/
theorem get_writeDigit (s : State) (k j : BitVec 2) :
    (s.writeDigit k).digits.get j = if j = k then digit j s.displayValue else s.digits.get j := by
  rw [State.writeDigit_digits]
  split
  · next h => rw [h, Digits.get_set_self]
  · next h => exact Digits.get_set_other _ _ _ _ h

/-- After any operation a digit is the old one or the one of DisplayValue. -/
theorem effect_digit (i : Instr) (s : State) (j : BitVec 2) :
    (effect i s).digits.get j = s.digits.get j ∨ (effect i s).digits.get j = digit j s.displayValue := by
  have written (k : BitVec 2) : (s.writeDigit k).digits.get j = s.digits.get j
      ∨ (s.writeDigit k).digits.get j = digit j s.displayValue := by
    rw [get_writeDigit]
    split <;> simp
  rcases (owners i).digits with hk | ⟨k, rfl⟩ | hi
  · exact .inl (congrArg (Digits.get · j) (hk s))
  · exact written _
  · simp only [List.mem_cons, List.not_mem_nil, or_false] at hi
    rcases hi with rfl | rfl | rfl | rfl <;> exact written _

/-! ## Reset and the induction over steps -/

/-- The state RST leaves: the reset table, with free values in AdcData and the temporaries (R156). -/
def afterRst (s : State) : State := { State.resetWith s.cfg with
  adcData := Config.freeByte s.draws, ti := Config.freeByte (s.draws + 1), tj := Config.freeByte (s.draws + 2)
  te := Config.freeBit s.draws, tc := Config.freeBit (s.draws + 1)
  draws := s.draws + 3, schedule := s.schedule }

theorem exec_rst_eq (s : State) : exec .rst s = .next (afterRst s) := exec_rst s

/-- Whatever the fetch does not touch, RST establishes and every enabled operation keeps, every step keeps. -/
theorem step_preserves {P : State → Prop} (hfetch : ∀ s rest, P s → P { s with schedule := rest })
    (hrst : ∀ s, P (afterRst s))
    (heffect : ∀ i s, s.inRange = true → enabledIn i s = true → P s → P (effect i s))
    {s t : State} (hs : P s) (h : step s = .next t) : P t := by
  obtain ⟨i, -, hexec⟩ := step_next h
  by_cases hi : i = .rst
  · subst hi
    rw [exec_rst_eq] at hexec
    cases hexec
    exact hrst { s with schedule := s.schedule.tail }
  · obtain ⟨hrange, -, hen, -, rfl⟩ := exec_next hi hexec
    exact heffect i _ hrange hen (hfetch s _ hs)

/-- DEC_INIT fits DecreaseCounter (R13). -/
theorem resetWith_decreaseCounter (cfg : Config) :
    (State.resetWith cfg).decreaseCounter.toNat = cfg.decInit.val := by
  have := cfg.decInit.isLt
  simp only [State.resetWith, BitVec.toNat_ofNat]
  omega

/-- ANALOG_INIT fits AnalogReading (R14). -/
theorem resetWith_analogReading (cfg : Config) :
    (State.resetWith cfg).analogReading.toNat = cfg.analogInit.val := by
  have := cfg.analogInit.isLt
  simp only [State.resetWith, BitVec.toNat_ofNat]
  omega

theorem resetWith_inRange (cfg : Config) : (State.resetWith cfg).inRange = true := by
  have hdec := resetWith_decreaseCounter cfg
  have hana := resetWith_analogReading cfg
  refine (inRange_iff _).2 ⟨?_, ?_, by omega, by omega, ?_, ?_, ?_, ?_, ?_, ?_, Nat.two_pow_pos _⟩ <;>
    simp [State.resetWith]

/-- At MainPC 0 with Mode and PressCount at 0 the main loop's invariant asks for the ranges only. -/
theorem mainLoopSound_of_start {s : State} (hrange : s.inRange = true) (hpc : s.mainPC = 0#4)
    (hmode : s.mode = .auto) (hcount : s.pressCount = 0#2) : s.mainLoopSound :=
  ⟨hrange, by simp [State.lockstep, hpc, hmode, hcount, Mode.code], by simp [State.substepInMode, hpc],
    by simp [State.tempsInRange, hpc]⟩

/-- The digits of the value 0 are 0. -/
theorem resetWith_digitsCoherent (cfg : Config) : (State.resetWith cfg).digitsCoherent := by
  have zeros : ∀ k : BitVec 2, (Digits.mk 0#4 0#4 0#4 0#4).get k = digit k 0#10 := by decide
  exact fun k _ => zeros k

/-- Settles O49: the table read off the reset state; DEC_INIT and ANALOG_INIT fit their registers. -/
theorem resetStateIsTheResetTable : Obligations.ResetStateIsTheResetTable := by
  refine ⟨?_, rfl⟩
  rintro cfg s rfl
  refine ⟨rfl, rfl, rfl, rfl, rfl, rfl, resetWith_decreaseCounter cfg, resetWith_analogReading cfg, rfl, rfl, rfl, rfl,
    rfl, rfl, rfl, rfl, rfl, ?_, rfl, rfl, rfl, rfl, rfl⟩
  intro x
  cases x <;> rfl

/-- Settles O50: nothing is pending, nothing has been written to the port, and the main loop is at its start. -/
theorem resetStateIsSound : Obligations.ResetStateIsSound := by
  intro cfg
  refine ⟨mainLoopSound_of_start (resetWith_inRange cfg) rfl rfl rfl, resetWith_digitsCoherent cfg, ?_, ?_, ?_⟩
  · simp [State.sourcesArmed, State.resetWith]
  · simp [State.portSound, State.resetWith]
  · simp [State.scanInOrder, State.resetWith]

/-! ## Ranges -/

theorem rescale_le (f : RescaleFn) (sample : Byte) : (rescale f sample).toNat ≤ 999 := by
  have := sample.isLt
  cases f <;> refine (Nat.mod_le _ _).trans ?_
  case nearest => exact Nat.le_of_lt_succ ((Nat.div_lt_iff_lt_mul (by decide)).2 (by omega))
  case table values => exact Nat.min_le_left _ _

/-- Every value source fits DisplayValue's range (R117). -/
theorem valueSource_le {s : State} (h : s.inRange = true) : s.valueSource.toNat ≤ 999 := by
  obtain ⟨hauto, hinc, hdec, hana, -⟩ := (inRange_iff s).1 h
  unfold State.valueSource
  cases s.mode <;> simp <;> omega

section
variable {s : State} (i : Instr)

theorem effect_autoCounter_le (h : s.autoCounter.toNat ≤ 159) : (effect i s).autoCounter.toNat ≤ 159 := by
  rcases (owners i).autoCounter with hk | rfl | rfl
  · rwa [hk s]
  · simp only [effect, State.goto_autoCounter]
    split
    · rw [nextAuto_toNat]
      omega
    · exact h
  · simp only [effect, transition_eq, State.goto_autoCounter]
    split
    · decide
    · exact h

theorem effect_increaseCounter_le (h : s.increaseCounter.toNat ≤ 159) :
    (effect i s).increaseCounter.toNat ≤ 159 := by
  rcases (owners i).increaseCounter with hk | rfl
  · rwa [hk s]
  · change (satInc s.increaseCounter).toNat ≤ 159
    rw [satInc_toNat]
    exact Nat.min_le_right _ _

theorem effect_decreaseCounter_le (h : s.decreaseCounter.toNat ≤ 159) :
    (effect i s).decreaseCounter.toNat ≤ 159 := by
  rcases (owners i).decreaseCounter with hk | rfl
  · rwa [hk s]
  · change (satDec s.decreaseCounter).toNat ≤ 159
    rw [satDec_toNat]
    omega

theorem effect_analogReading_le (h : s.analogReading.toNat ≤ 999) : (effect i s).analogReading.toNat ≤ 999 := by
  rcases (owners i).analogReading with hk | rfl
  · rwa [hk s]
  · exact rescale_le _ _

theorem effect_displayValue_le (h : s.inRange = true) : (effect i s).displayValue.toNat ≤ 999 := by
  rcases (owners i).displayValue with hk | rfl
  · obtain ⟨-, -, -, -, hdisp, -⟩ := (inRange_iff s).1 h
    rwa [hk s]
  · exact valueSource_le h

theorem effect_digit_le (h : ∀ k, (s.digits.get k).toNat ≤ 9) (k : BitVec 2) :
    ((effect i s).digits.get k).toNat ≤ 9 := by
  rcases effect_digit i s k with hk | hk <;> rw [hk]
  · exact h k
  · exact digit_le_nine k _

/-- Every writer of ScanIndex leaves a next position. -/
theorem effect_scanIndex_le (h : s.scanIndex.toNat ≤ 3) : (effect i s).scanIndex.toNat ≤ 3 := by
  rcases (owners i).scanIndex with hk | hi
  · rwa [hk s]
  · simp only [List.mem_cons, List.not_mem_nil, or_false] at hi
    rcases hi with rfl | rfl | rfl | rfl | rfl <;> exact nextPosition_le _

theorem effect_tickCount_lt (h : s.tickCount < 2 ^ tickW s.cfg) :
    (effect i s).tickCount < 2 ^ tickW (effect i s).cfg := by
  rw [(owners i).cfg s]
  rcases (owners i).tickCount with hk | rfl | rfl
  · rwa [hk s]
  · exact nextTick_lt _ _
  · simp only [effect, State.goto_tickCount]
    split
    · exact Nat.two_pow_pos _
    · exact h

/-- Every operation keeps the declared ranges (R35). -/
theorem effect_inRange (h : s.inRange = true) : (effect i s).inRange = true := by
  obtain ⟨hauto, hinc, hdec, hana, -, hd0, hd1, hd2, hd3, hscan, htick⟩ := (inRange_iff s).1 h
  have hdigit : ∀ k, ((effect i s).digits.get k).toNat ≤ 9 := effect_digit_le i fun k => by
    rcases s.digits.get_cases k with hk | hk | hk | hk <;> rwa [hk]
  exact (inRange_iff _).2 ⟨effect_autoCounter_le i hauto, effect_increaseCounter_le i hinc,
    effect_decreaseCounter_le i hdec, effect_analogReading_le i hana, effect_displayValue_le i h, hdigit 0#2, hdigit 1#2,
    hdigit 2#2, hdigit 3#2, effect_scanIndex_le i hscan, effect_tickCount_lt i htick⟩

end

/-- Settles O51: RST and every operation leave a state in range. -/
theorem rangesAreKept : Obligations.RangesAreKept := by
  intro s t hs h
  exact step_preserves (P := fun s => s.inRange = true) (fun _ _ hs => hs) (fun s => resetWith_inRange s.cfg)
    (fun i _ _ _ hs => effect_inRange i hs) hs h

end Sys2Proof.Machine

/-! ## The main loop's position and its invariant -/

namespace Sys2Proof.Machine

/-- A micro-step is the operation the decoder reads at its index (R60). -/
theorem formM_of_micro {i : Instr} {n : BitVec 4} (h : agentClass i = .micro n) : formM (n.setWidth 8) = some i := by
  cases i <;> cases h <;> rfl

/-- One operation per index. -/
theorem micro_unique {i j : Instr} {n : BitVec 4} (hi : agentClass i = .micro n) (hj : agentClass j = .micro n) :
    i = j :=
  Option.some.inj ((formM_of_micro hi).symm.trans (formM_of_micro hj))

theorem enabledIn_micro {i : Instr} {n : BitVec 4} {s : State} (h : agentClass i = .micro n) :
    enabledIn i s = true ↔ s.mainPC = n := by
  simp [enabledIn, h]

/-- A micro-step goes to its successor in R113's table. -/
theorem effect_mainPC_of_micro {i : Instr} {n : BitVec 4} (s : State) (h : agentClass i = .micro n) :
    (effect i s).mainPC = successor n s.mode := by
  cases i <;> cases h <;> simp only [effect, State.goto_mainPC]
  all_goals cases s.mode <;> rfl

/-- An enabled operation leaves MainPC alone or is the micro-step MainPC names, which moves on to its successor. -/
theorem effect_mainPC {i : Instr} {s : State} (hen : enabledIn i s = true) :
    ((∀ n, agentClass i ≠ .micro n) ∧ (effect i s).mainPC = s.mainPC)
      ∨ (agentClass i = .micro s.mainPC ∧ (effect i s).mainPC = successor s.mainPC s.mode) := by
  by_cases h : ∃ n, agentClass i = .micro n
  · obtain ⟨n, hn⟩ := h
    obtain rfl := (enabledIn_micro hn).1 hen
    exact .inr ⟨hn, effect_mainPC_of_micro s hn⟩
  · exact .inl ⟨not_exists.1 h, (owners i).mainPC.resolve_right h s⟩

/-- The positions between M.PRESS and M.TRANS, where PressCount may be one ahead of Mode (R36). -/
abbrev afterPress (n : BitVec 4) : Prop := 2 ≤ n.toNat ∧ n.toNat ≤ 11

/-- The substeps are entered in their own mode only (R113). -/
abbrev substepFits (n : BitVec 4) (m : Mode) : Prop :=
  (3 ≤ n.toNat → n.toNat ≤ 5 → m = .auto) ∧ (6 ≤ n.toNat → n.toNat ≤ 10 → m = .analog)

theorem substepInMode_iff (s : State) : s.substepInMode ↔ substepFits s.mainPC s.mode := Iff.rfl

/-- Only M.PRESS enters the positions after the press, and only M.TRANS leaves them. -/
theorem afterPress_successor {n : BitVec 4} (m : Mode) (hpress : n ≠ 1#4) (htrans : n ≠ 11#4) :
    afterPress (successor n m) ↔ afterPress n := by
  revert n
  cases m <;> decide

theorem substepFits_successor {n : BitVec 4} {m : Mode} (h : substepFits n m) : substepFits (successor n m) m := by
  revert n
  cases m <;> decide

theorem lockstep_of_afterPress {s : State} (hpc : afterPress s.mainPC) :
    s.lockstep ↔ s.pressCount = s.mode.code ∨ s.pressCount = s.mode.code + 1#2 := by
  simp only [State.lockstep, hpc, and_self, if_true]

theorem lockstep_of_not_afterPress {s : State} (hpc : ¬ afterPress s.mainPC) :
    s.lockstep ↔ s.pressCount = s.mode.code := by
  simp only [State.lockstep, hpc, if_false]

/-- M.PRESS enters the positions after the press with PressCount the number of the mode or one ahead (R116). -/
theorem effect_lockstep_mPress {s : State} (hpc : s.mainPC = 1#4) (h : s.lockstep) : (effect .mPress s).lockstep := by
  have hcount : s.pressCount = s.mode.code :=
    (lockstep_of_not_afterPress (by rw [hpc]; decide)).1 h
  refine (lockstep_of_afterPress (s := effect .mPress s) (by decide : afterPress 2#4)).2 ?_
  simp only [effect, countPress_eq, nextPress_eq, State.goto_pressCount, State.goto_mode, hcount]
  split <;> simp

/-- M.TRANS leaves them with Mode caught up (R126 to R130). -/
theorem effect_lockstep_mTrans {s : State} (hpc : s.mainPC = 11#4) (h : s.lockstep) : (effect .mTrans s).lockstep := by
  have hcount := (lockstep_of_afterPress (by rw [hpc]; decide)).1 h
  refine (lockstep_of_not_afterPress (s := effect .mTrans s) (by decide : ¬ afterPress 12#4)).2 ?_
  simp only [effect, transition_eq, State.goto_pressCount, State.goto_mode]
  split
  · next ahead => rw [ahead, Mode.code_next]
  · next level => exact hcount.resolve_right level

/-- Elsewhere Mode and PressCount are kept, and MainPC stays on its side of the two. -/
theorem effect_lockstep {i : Instr} {s : State} (hen : enabledIn i s = true) (h : s.lockstep) :
    (effect i s).lockstep := by
  by_cases hpress : i = .mPress
  · subst hpress
    exact effect_lockstep_mPress ((enabledIn_micro rfl).1 hen) h
  by_cases htrans : i = .mTrans
  · subst htrans
    exact effect_lockstep_mTrans ((enabledIn_micro rfl).1 hen) h
  have hmode : (effect i s).mode = s.mode := (owners i).mode.resolve_right htrans s
  have hcount : (effect i s).pressCount = s.pressCount := (owners i).pressCount.resolve_right hpress s
  have hside : afterPress (effect i s).mainPC ↔ afterPress s.mainPC := by
    rcases effect_mainPC hen with ⟨-, hpc⟩ | ⟨hi, hpc⟩ <;> rw [hpc]
    exact afterPress_successor _ (fun h1 => hpress (micro_unique hi (congrArg AgentClass.micro h1.symm)))
      (fun h11 => htrans (micro_unique hi (congrArg AgentClass.micro h11.symm)))
  by_cases hpc : afterPress s.mainPC
  · rw [lockstep_of_afterPress (hside.2 hpc), hmode, hcount]
    exact (lockstep_of_afterPress hpc).1 h
  · rw [lockstep_of_not_afterPress (mt hside.1 hpc), hmode, hcount]
    exact (lockstep_of_not_afterPress hpc).1 h

/-- Only M.TRANS changes the mode, and it leaves for a position outside the substeps. -/
theorem effect_substepInMode {i : Instr} {s : State} (hen : enabledIn i s = true) (h : s.substepInMode) :
    (effect i s).substepInMode := by
  by_cases htrans : i = .mTrans
  · subst htrans
    have outside : ∀ m, substepFits 12#4 m := by intro m; cases m <;> decide
    exact outside _
  have hmode : (effect i s).mode = s.mode := (owners i).mode.resolve_right htrans s
  rw [substepInMode_iff, hmode]
  rcases effect_mainPC hen with ⟨-, hpc⟩ | ⟨-, hpc⟩ <;> rw [hpc]
  · exact h
  · exact substepFits_successor h

/-- The indices of M.PRESS, M.AUTO.CLR, M.AUTO.ADV, M.ANA.WR and M.ANA.INC, the micro-steps that read a temporary (R31). -/
abbrev temporaryReaders : List (BitVec 4) := [1#4, 4#4, 5#4, 8#4, 10#4]

/-- The positions whose micro-step reads a temporary are entered only from the position before, by the operation there. -/
theorem entered_from_before {i : Instr} {s : State} {n : BitVec 4} (hn : n ∈ temporaryReaders)
    (hen : enabledIn i s = true) (h : (effect i s).mainPC = n) :
    s.mainPC = n ∨ (s.mainPC = n - 1#4 ∧ agentClass i = .micro (n - 1#4)) := by
  have before : ∀ p m, successor p m ∈ temporaryReaders → p = successor p m - 1#4 := by
    intro p m
    revert p
    cases m <;> decide
  rcases effect_mainPC hen with ⟨-, hpc⟩ | ⟨hi, hpc⟩
  · exact .inl (hpc.symm.trans h)
  · have hp : s.mainPC = n - 1#4 := by
      rw [← h, hpc]
      exact before _ _ (by rwa [← hpc, h])
    exact .inr ⟨hp, hp ▸ hi⟩

/-- M.ANA.RD and M.ANA.RD2 read ScanIndex, and nothing else writes t.i and t.j before they are used (R122, R124). -/
theorem effect_tempsInRange {i : Instr} {s : State} (hrange : s.inRange = true) (hen : enabledIn i s = true)
    (h : s.tempsInRange) : (effect i s).tempsInRange := by
  obtain ⟨hti, htj⟩ := h
  obtain ⟨-, -, -, -, -, -, -, -, -, hscan, -⟩ := (inRange_iff s).1 hrange
  constructor <;> intro hpc
  · by_cases hread : i = .mAnaRd
    · subst hread
      exact hscan
    · rw [(owners i).ti.resolve_right hread s]
      exact hti ((entered_from_before (by decide) hen hpc).resolve_right fun h => hread (micro_unique h.2 rfl))
  · by_cases hread : i = .mAnaRd2
    · subst hread
      exact hscan
    · rw [(owners i).tj.resolve_right hread s]
      exact htj ((entered_from_before (by decide) hen hpc).resolve_right fun h => hread (micro_unique h.2 rfl))

/-- Settles O52: the four parts of the invariant, each kept by every enabled operation. -/
theorem lockstepIsKept : Obligations.LockstepIsKept := by
  intro s t hs h
  refine step_preserves (P := State.mainLoopSound) (fun _ _ hs => hs) ?_ ?_ hs h
  · exact fun s => mainLoopSound_of_start (resetWith_inRange s.cfg) rfl rfl rfl
  · rintro i s hrange hen ⟨-, hlock, hsub, htemps⟩
    exact ⟨effect_inRange i hrange, effect_lockstep hen hlock, effect_substepInMode hen hsub,
      effect_tempsInRange hrange hen htemps⟩

/-! ## Coherence of the digits with DisplayValue -/

/-- The positions at which digit k has been recomputed since the last M.SELECT (C7). -/
abbrev recomputed (n : BitVec 4) (k : BitVec 2) : Prop := n.toNat ≤ 2 ∨ 12 + k.toNat < n.toNat

/-- No digit counts as recomputed right after M.SELECT. -/
theorem not_recomputed_afterSelect (m : Mode) (k : BitVec 2) : ¬ recomputed (afterSelect m) k := by
  revert k
  cases m <;> decide

/-- A digit becomes recomputed by its own M.DIG micro-step only. -/
theorem recomputed_successor {n : BitVec 4} {m : Mode} {k : BitVec 2} (hn : n ≠ 2#4)
    (h : recomputed (successor n m) k) :
    recomputed n k ∨ n = 12#4 + k.setWidth 4 := by
  revert n k
  cases m <;> decide

/-- M.DIG.k leaves digit k fresh (R131 to R134). -/
theorem get_effect_mDig {i : Instr} {k : BitVec 2} (s : State) (h : agentClass i = .micro (12#4 + k.setWidth 4)) :
    (effect i s).digits.get k = digit k s.displayValue := by
  have hat := formM_of_micro h
  have fresh : (s.writeDigit k).digits.get k = digit k s.displayValue := by rw [get_writeDigit, if_pos rfl]
  have split4 : ∀ k : BitVec 2, k = 0#2 ∨ k = 1#2 ∨ k = 2#2 ∨ k = 3#2 := by decide
  rcases split4 k with rfl | rfl | rfl | rfl <;> cases hat <;> exact fresh

/-- A digit that counts as recomputed after an operation did so before, or the operation computed it. -/
theorem effect_digitsCoherent {i : Instr} {s : State} (hen : enabledIn i s = true) (h : s.digitsCoherent) :
    (effect i s).digitsCoherent := by
  intro k hk
  by_cases hselect : i = .mSelect
  · subst hselect
    exact absurd hk (not_recomputed_afterSelect s.mode k)
  rw [(owners i).displayValue.resolve_right hselect s]
  obtain hbefore | hfresh :
      recomputed s.mainPC k ∨ (effect i s).digits.get k = digit k s.displayValue := by
    rcases effect_mainPC hen with ⟨-, hpc⟩ | ⟨hi, hpc⟩
    · exact .inl (hpc ▸ hk)
    · rw [hpc] at hk
      have hn : s.mainPC ≠ 2#4 := fun h2 => hselect (micro_unique hi (congrArg AgentClass.micro h2.symm))
      rcases recomputed_successor hn hk with hbefore | hdig
      · exact .inl hbefore
      · exact .inr (get_effect_mDig s (hdig ▸ hi))
  · rcases effect_digit i s k with hold | hfresh
    · rw [hold]
      exact h k hbefore
    · exact hfresh
  · exact hfresh

/-- Settles O53: the digits at MainPC 0 are all recomputed after RST, and every enabled operation keeps coherence. -/
theorem digitsStayCoherent : Obligations.DigitsStayCoherent := by
  intro s t hs h
  exact step_preserves (P := State.digitsCoherent) (fun _ _ hs => hs) (fun s => resetWith_digitsCoherent s.cfg)
    (fun _ _ _ hen hs => effect_digitsCoherent hen hs) hs h

end Sys2Proof.Machine

/-! ## What exec answers, refusals included -/

namespace Sys2Proof.Machine

/-- Why an operation that is not next is refused (R56): only a handler and a micro-step can be. -/
def notNext : AgentClass → Option Refusal
  | .env => none
  | .prim => none
  | .isr x => some (.handlerNotPending x)
  | .micro n => some (.microStepNotNext n)

/-- The reason any operation but RST is refused for, none where it runs (R56, R57, R84). -/
def refusalOf (i : Instr) (s : State) : Option Refusal :=
  if s.inRange = false then some .stateOutOfRange
  else if enabledIn i s = false then notNext (agentClass i)
  else if i.wellFormed = false then some .operandOutOfFormat
  else if i = .mAnaWr ∧ 3 < s.ti.toNat then some .stateOutOfRange
  else none

/-- An operation's answer: the refusal if there is one, and otherwise its effect. -/
def answerOf (i : Instr) (s : State) : Answer := (refusalOf i s).elim (.next (effect i s)) .refused

section
variable {i : Instr} {s : State} (hs : s.inRange = true)
include hs

/-- An operation with nothing to check answers its effect. -/
theorem guarded_next_eq_answerOf {t : State} (hen : enabledIn i s = true) (hwf : i.wellFormed = true)
    (hne : i ≠ .mAnaWr) (heffect : effect i s = t) : guarded s (.next t) = answerOf i s := by
  simp [answerOf, refusalOf, guarded_inRange, hs, hen, hwf, hne, heffect]

/-- An operation of format L refuses what is no level (R57). -/
theorem withLevel_eq_answerOf {arg : Byte} {op : Bool → State} (hen : enabledIn i s = true)
    (hwf : i.wellFormed = isLevel arg) (hne : i ≠ .mAnaWr) (heffect : effect i s = op (arg == 1#8)) :
    guarded s (withLevel arg op) = answerOf i s := by
  rw [guarded_inRange hs]
  unfold withLevel levelOperand
  cases h : isLevel arg <;> simp [answerOf, refusalOf, hs, hen, hwf, hne, heffect, h]

/-- A handler is refused while its flag is 0 (R144). -/
theorem takeInterrupt_eq_answerOf {x : Source} {body : State → State} (hclass : agentClass i = .isr x)
    (hwf : i.wellFormed = true) (hne : i ≠ .mAnaWr) (heffect : effect i s = body (s.clearPending x)) :
    takeInterrupt x body s = answerOf i s := by
  rw [takeInterrupt, guarded_inRange hs]
  cases h : s.pending x <;> simp [answerOf, refusalOf, notNext, enabledIn, hs, hclass, hwf, hne, heffect, h]

/-- A micro-step is refused while MainPC is not its index (R60). -/
theorem microStep_eq_answerOf {n : BitVec 4} {body : State → State} (hclass : agentClass i = .micro n)
    (hwf : i.wellFormed = true) (hne : i ≠ .mAnaWr) (heffect : effect i s = body s) :
    microStep n body s = answerOf i s := by
  rw [microStep, guarded_inRange hs]
  by_cases h : s.mainPC = n <;> simp [answerOf, refusalOf, notNext, enabledIn, hs, hclass, hwf, hne, heffect, h]

theorem execMuxDig_eq_answerOf (k : Byte) : execMuxDig k s = answerOf (.muxDig k) s := by
  rw [execMuxDig, guarded_inRange hs]
  unfold digitOperand
  cases h : isDigitIndex k <;>
    simp [answerOf, refusalOf, enabledIn, agentClass, Instr.wellFormed, effect, hs, h]

theorem execMAnaWr_eq_answerOf : execMAnaWr s = answerOf .mAnaWr s := by
  rw [execMAnaWr, guarded_inRange hs]
  by_cases hpc : s.mainPC = 8#4 <;> by_cases hti : s.ti.toNat ≤ 3 <;>
    simp [answerOf, refusalOf, notNext, enabledIn, agentClass, Instr.wellFormed, effect, hs, hpc, ← not_le, hti]

end

/-- Out of range everything but RST is refused (R84). -/
theorem exec_outOfRange {i : Instr} {s : State} (hi : i ≠ .rst) (hs : s.inRange = false) : exec i s = answerOf i s := by
  have hanswer : answerOf i s = .refused .stateOutOfRange := by simp [answerOf, refusalOf, hs]
  rw [hanswer]
  cases i
  case rst => exact absurd rfl hi
  all_goals exact guarded_outOfRange hs _

/-- Every answer of exec but for RST, refusals included. -/
theorem exec_eq_answerOf {i : Instr} (hi : i ≠ .rst) (s : State) : exec i s = answerOf i s := by
  rcases Bool.eq_false_or_eq_true s.inRange with hs | hs
  swap
  · exact exec_outOfRange hi hs
  cases i
  case rst => exact absurd rfl hi
  case dbPoll lvl | pinInc lvl | pinDec lvl | pinMode lvl => exact withLevel_eq_answerOf hs rfl rfl (by simp) rfl
  case isrTick | isrInc | isrDec | isrAdc => exact takeInterrupt_eq_answerOf hs rfl rfl (by simp) rfl
  case muxDig k => exact execMuxDig_eq_answerOf hs k
  case mAnaWr => exact execMAnaWr_eq_answerOf hs
  case muxScan | tmrStart | tmrStop | tmrMatch | edgeEnable | adcArm | adcEoc sample =>
    exact guarded_next_eq_answerOf hs rfl rfl (by simp) rfl
  all_goals
    unfold exec
    exact microStep_eq_answerOf hs rfl rfl (by simp) rfl

/-! ## The unspecified registers are never seen -/

/-- Two states that agree but for AdcData and the temporaries. -/
def sameAlive (s s' : State) : Prop :=
  s' = { s with adcData := s'.adcData, te := s'.te, tc := s'.tc, ti := s'.ti, tj := s'.tj }

/-- The two states hold the same in the registers the operation reads (R29, R31). -/
def readsAlike (i : Instr) (s s' : State) : Prop :=
  match i with
  | .isrAdc => s'.adcData = s.adcData
  | .mPress => s'.te = s.te
  | .mAutoClr => s'.tc = s.tc
  | .mAutoAdv => s'.tc = s.tc
  | .mAnaWr => s'.ti = s.ti
  | .mAnaInc => s'.tj = s.tj
  | _ => True

theorem effect_sameAlive {i : Instr} {s s' : State} (h : sameAlive s s') (hreads : readsAlike i s s') :
    sameAlive (effect i s) (effect i s') := by
  obtain ⟨a, e, c, p, q, rfl⟩ : ∃ a e c p q, s' = { s with adcData := a, te := e, tc := c, ti := p, tj := q } :=
    ⟨_, _, _, _, _, h⟩
  unfold sameAlive
  cases i
  case isrAdc | mPress | mAutoClr | mAutoAdv | mAnaWr | mAnaInc => cases hreads; simp only [effect, countPress_eq]; rfl
  all_goals simp only [effect, latch_eq, complete_eq, transition_eq] <;> rfl

/-- Where an operation reads one of the five registers, the relation has it equal. -/
theorem readsAlike_of_sameButDead {i : Instr} {s s' : State} (h : sameButDead s s') (hen : enabledIn i s = true) :
    readsAlike i s s' := by
  obtain ⟨-, hadc, hte, htc, hti, htj⟩ := h
  cases i
  case isrAdc => exact hadc hen
  case mPress => exact hte ((enabledIn_micro rfl).1 hen)
  case mAutoClr => exact htc (.inl ((enabledIn_micro rfl).1 hen))
  case mAutoAdv => exact htc (.inr ((enabledIn_micro rfl).1 hen))
  case mAnaWr => exact hti ((enabledIn_micro rfl).1 hen)
  case mAnaInc => exact htj ((enabledIn_micro rfl).1 hen)
  all_goals trivial

/-- AdcData stays equal while a conversion is pending: a completion writes both, and only it makes one pending (R105). -/
theorem effect_adcData_alike {i : Instr} {s s' : State} (h : sameAlive s s')
    (hadc : s.pendAdc = true → s'.adcData = s.adcData) (hpend : (effect i s).pendAdc = true) :
    (effect i s').adcData = (effect i s).adcData := by
  by_cases heoc : ∃ a, i = .adcEoc a
  · obtain ⟨a, rfl⟩ := heoc
    have hen : s'.adcEnabled = s.adcEnabled := by rw [h]
    simp only [effect, complete_eq, hen, Bool.or_eq_true] at hpend ⊢
    split
    · rfl
    · next hoff => exact hadc (hpend.resolve_right hoff)
  have hk : Keeps State.adcData i := (owners i).adcData.resolve_right heoc
  rw [hk s, hk s']
  rcases (owners i).pendAdc with hp | heoc' | rfl
  · exact hadc (hp s ▸ hpend)
  · exact absurd heoc' heoc
  · cases hpend

/-- A temporary stays equal where it is read: the operation keeps it or writes both alike, and one that arrives there from
the position before leaves it equal. -/
theorem effect_temporary_alike {α : Type} {temp : State → α} {i : Instr} {s s' : State} {n : BitVec 4}
    (hn : n ∈ temporaryReaders) (hen : enabledIn i s = true) (hlive : s.mainPC = n → temp s' = temp s)
    (howner : Keeps temp i ∨ temp (effect i s') = temp (effect i s))
    (hbefore : agentClass i = .micro (n - 1#4) → temp (effect i s') = temp (effect i s))
    (hpc : (effect i s).mainPC = n) : temp (effect i s') = temp (effect i s) := by
  rcases entered_from_before hn hen hpc with hsame | ⟨-, hi⟩
  · rcases howner with hk | hwritten
    · rw [hk s, hk s']
      exact hlive hsame
    · exact hwritten
  · exact hbefore hi

section
variable {s s' : State} (h : sameAlive s s')
include h

/-- The temporaries are written from registers the two states share (R71, R115, R118, R122, R124). -/
theorem dbPoll_te_alike (l : Byte) : (effect (.dbPoll l) s').te = (effect (.dbPoll l) s).te := by rw [h]; rfl

theorem mPoll_te_alike : (effect .mPoll s').te = (effect .mPoll s).te := by rw [h]; rfl

theorem mAutoCmp_tc_alike : (effect .mAutoCmp s').tc = (effect .mAutoCmp s).tc := by rw [h]; rfl

theorem mAnaRd_ti_alike : (effect .mAnaRd s').ti = (effect .mAnaRd s).ti := by rw [h]; rfl

theorem mAnaRd2_tj_alike : (effect .mAnaRd2 s').tj = (effect .mAnaRd2 s).tj := by rw [h]; rfl

end

/-- Every enabled operation keeps the relation. -/
theorem effect_sameButDead {i : Instr} {s s' : State} (h : sameButDead s s') (hen : enabledIn i s = true) :
    sameButDead (effect i s) (effect i s') := by
  have hreads := readsAlike_of_sameButDead h hen
  obtain ⟨halive, hadc, hte, htc, hti, htj⟩ := h
  have own := owners i
  have htc_owner : Keeps State.tc i ∨ (effect i s').tc = (effect i s).tc :=
    own.tc.imp_right fun hi => by subst hi; exact mAutoCmp_tc_alike halive
  refine ⟨effect_sameAlive halive hreads, effect_adcData_alike halive hadc, ?te, ?tc, ?ti, ?tj⟩
  case te =>
    refine effect_temporary_alike (by decide) hen hte (own.te.imp_right ?_) fun hi => ?_
    · rintro (⟨l, rfl⟩ | rfl)
      exacts [dbPoll_te_alike halive l, mPoll_te_alike halive]
    · obtain rfl : i = .mPoll := micro_unique hi rfl
      exact mPoll_te_alike halive
  case tc =>
    rintro (hpc | hpc)
    · refine effect_temporary_alike (by decide) hen (fun h4 => htc (.inl h4)) htc_owner (fun hi => ?_) hpc
      obtain rfl : i = .mAutoCmp := micro_unique hi rfl
      exact mAutoCmp_tc_alike halive
    · refine effect_temporary_alike (by decide) hen (fun h5 => htc (.inr h5)) htc_owner (fun hi => ?_) hpc
      obtain rfl : i = .mAutoClr := micro_unique hi rfl
      exact hreads
  case ti =>
    refine effect_temporary_alike (by decide) hen hti (own.ti.imp_right fun hi => ?_) fun hi => ?_
    · subst hi; exact mAnaRd_ti_alike halive
    · obtain rfl : i = .mAnaRd := micro_unique hi rfl
      exact mAnaRd_ti_alike halive
  case tj =>
    refine effect_temporary_alike (by decide) hen htj (own.tj.imp_right fun hi => ?_) fun hi => ?_
    · subst hi; exact mAnaRd2_tj_alike halive
    · obtain rfl : i = .mAnaRd2 := micro_unique hi rfl
      exact mAnaRd2_tj_alike halive

/-- Whether and why an operation is refused does not depend on the dead registers. -/
theorem refusalOf_alike (i : Instr) {s s' : State} (h : sameButDead s s') : refusalOf i s' = refusalOf i s := by
  obtain ⟨halive, -, -, -, hti, -⟩ := h
  have hrange : s'.inRange = s.inRange := by rw [halive]; rfl
  have hpending : ∀ x, s'.pending x = s.pending x := by intro x; rw [halive]; cases x <;> rfl
  have hpc : s'.mainPC = s.mainPC := by rw [halive]
  have hen : enabledIn i s' = enabledIn i s := by simp only [enabledIn, hpending, hpc]
  unfold refusalOf
  rw [hrange, hen]
  by_cases hwr : i = .mAnaWr ∧ enabledIn i s = true
  · obtain ⟨rfl, hrun⟩ := hwr
    rw [hti ((enabledIn_micro rfl).1 hrun)]
  · rcases not_and_or.1 hwr with hne | hoff
    · simp only [hne, false_and]
    · simp only [Bool.not_eq_true] at hoff
      simp only [hoff, if_true]

/-- Two answers that the values RST leaves unspecified do not tell apart. -/
def answersAlike (a a' : Answer) : Prop :=
  (∀ t, a = .next t → ∃ t', a' = .next t' ∧ sameButDead t t') ∧ ∀ r, a = .refused r → a' = .refused r

theorem answersAlike_next {t t' : State} (h : sameButDead t t') : answersAlike (.next t) (.next t') :=
  ⟨by rintro _ ⟨⟩; exact ⟨t', rfl, h⟩, by rintro _ ⟨⟩⟩

theorem answersAlike_refused (r : Refusal) : answersAlike (.refused r) (.refused r) :=
  ⟨by rintro _ ⟨⟩, fun _ h => h⟩

theorem sameButDead_refl (s : State) : sameButDead s s :=
  ⟨rfl, fun _ => rfl, fun _ => rfl, fun _ => rfl, fun _ => rfl, fun _ => rfl⟩

/-- RST draws the same free values in both states (U7). -/
theorem afterRst_alike {s s' : State} (h : sameAlive s s') : afterRst s' = afterRst s := by rw [h]; rfl

theorem exec_answersAlike (i : Instr) {s s' : State} (h : sameButDead s s') :
    answersAlike (exec i s) (exec i s') := by
  by_cases hi : i = .rst
  · subst hi
    rw [exec_rst_eq, exec_rst_eq, afterRst_alike h.1]
    exact answersAlike_next (sameButDead_refl _)
  · have hexec := exec_eq_answerOf hi s
    rw [exec_eq_answerOf hi s', hexec]
    unfold answerOf at hexec ⊢
    rw [refusalOf_alike i h]
    cases hr : refusalOf i s with
    | some r => exact answersAlike_refused r
    | none =>
      rw [hr] at hexec
      obtain ⟨-, -, hen, -, -⟩ := exec_next hi hexec
      exact answersAlike_next (effect_sameButDead h hen)

/-- The event word of the next step (R48). -/
theorem fetch_word (s : State) : s.fetch.1 = s.schedule.head?.getD (microWord s.mainPC) := by
  unfold State.fetch
  cases s.schedule <;> rfl

/-- A step is the operation its word decodes to, or the refusal of a reserved word. -/
theorem step_eq (s : State) : step s =
    (decode s.fetch.1).elim (.refused (.reservedWord s.fetch.1)) fun i =>
      exec i { s with schedule := s.schedule.tail } := by
  unfold step
  rw [fetch_state]
  cases decode s.fetch.1 <;> rfl

/-- Settles O55: the two states fetch the same word, and its operation answers alike. -/
theorem unspecifiedValuesAreNeverSeen : Obligations.UnspecifiedValuesAreNeverSeen := by
  intro s s' h
  have hword : s'.fetch.1 = s.fetch.1 := by rw [fetch_word, fetch_word, h.1]
  have htail : sameButDead { s with schedule := s.schedule.tail } { s' with schedule := s'.schedule.tail } := by
    obtain ⟨halive, hlive⟩ := h
    exact ⟨by rw [halive], by rw [halive] at hlive ⊢; exact hlive⟩
  change answersAlike (step s) (step s')
  rw [step_eq s, step_eq s', hword]
  cases decode s.fetch.1 with
  | none => exact answersAlike_refused _
  | some i => exact exec_answersAlike i htail

end Sys2Proof.Machine

/-! ## A step runs the operation of the word it fetches -/

namespace Sys2Proof.Machine

/-- A word that decodes is executed on the state its fetch leaves, wherever the word came from (R48). -/
theorem step_of_fetch {s t : State} {w : EventWord} {i : Instr} (hfetch : s.fetch = (w, t))
    (hdecode : decode w = some i) : step s = exec i t := by
  simp only [step, hfetch, hdecode]

/-- R60's sum 0x6100 + n is the concatenation that the fetch builds: n fills the four low bits. -/
theorem microWord_eq_add (n : BitVec 4) : microWord n = 0x6100#16 + n.setWidth 16 := by
  revert n
  decide

/-- Settles O5: the fetch takes the head of the schedule or, when that is empty, MainPC's micro-step, and the step runs
what that word decodes to. -/
theorem stepRunsTheDecodedOperation : Obligations.StepRunsTheDecodedOperation := by
  constructor
  · intro s w rest i hschedule hdecode
    exact step_of_fetch (fetch_scheduled hschedule) hdecode
  · intro s i hschedule hdecode
    rw [← microWord_eq_add] at hdecode
    exact step_of_fetch (fetch_empty hschedule) hdecode

end Sys2Proof.Machine

/-! ## The fields of an event word -/

namespace Sys2Proof

@[simp] theorem opcodeField_append (op arg : Byte) : opcodeField (op ++ arg) = op := BitVec.extractLsb'_append_eq_left

@[simp] theorem argField_append (op arg : Byte) : argField (op ++ arg) = arg := BitVec.extractLsb'_append_eq_right

/-- The opcode and the ARG byte are the whole word (R55). -/
theorem opcodeField_append_argField (w : EventWord) : opcodeField w ++ argField w = w := by
  unfold opcodeField argField
  exact BitVec.extractLsb'_append_extractLsb'_eq_extractLsb' rfl |>.trans BitVec.extractLsb'_eq_self

/-- The operation fits its format and is written with this opcode and this ARG (R55, R57). -/
structure Instr.HasFields (i : Instr) (op arg : Byte) : Prop where
  wellFormed : i.wellFormed = true
  opcode : i.opcode = op
  arg : i.arg = arg

/-- The encoder writes the two fields side by side, so a word's fields say what it encodes. -/
theorem encode_eq_iff (i : Instr) (w : EventWord) : encode i = w ↔ i.opcode = opcodeField w ∧ i.arg = argField w := by
  constructor
  · rintro rfl
    exact ⟨(opcodeField_append _ _).symm, (argField_append _ _).symm⟩
  · rintro ⟨hop, harg⟩
    rw [encode, hop, harg, opcodeField_append_argField]

theorem Instr.HasFields.encode_eq {i : Instr} {w : EventWord} (h : i.HasFields (opcodeField w) (argField w)) :
    encode i = w :=
  (encode_eq_iff i w).2 ⟨h.opcode, h.arg⟩

/-! ## The formats: what each accepts, and what it reads (R57) -/

section
variable {i j : Instr} {f : Byte → Instr} {op arg : Byte}

theorem formL_of_isLevel (h : isLevel arg = true) : formL f arg = some (f arg) := by simp [formL, h]

theorem formK_of_isDigitIndex (h : isDigitIndex arg = true) : formK f arg = some (f arg) := by simp [formK, h]

theorem hasFields_of_formN (h : formN j arg = some i) (hj : j.HasFields op 0#8) : i.HasFields op arg := by
  unfold formN at h
  split at h
  · cases h
    subst arg
    exact hj
  · cases h

theorem hasFields_of_formL (h : formL f arg = some i) (hf : ∀ a, isLevel a = true → (f a).HasFields op a) :
    i.HasFields op arg := by
  unfold formL at h
  split at h
  · cases h
    exact hf arg ‹_›
  · cases h

theorem hasFields_of_formK (h : formK f arg = some i) (hf : ∀ a, isDigitIndex a = true → (f a).HasFields op a) :
    i.HasFields op arg := by
  unfold formK at h
  split at h
  · cases h
    exact hf arg ‹_›
  · cases h

theorem hasFields_of_formS (h : formS f arg = some i) (hf : ∀ a, (f a).HasFields op a) : i.HasFields op arg := by
  cases h
  exact hf arg

/-- Format M reads the micro-step whose index the ARG byte is (R60). -/
theorem hasFields_of_formM (h : formM arg = some i) : i.HasFields 0x61#8 arg := by
  unfold formM at h
  split at h <;> cases h
  all_goals exact ⟨rfl, rfl, BitVec.eq_of_toNat_eq (Eq.symm ‹arg.toNat = _›)⟩

end

/-! ## The round trips -/

/-- The decoder's branch is that of the operation's opcode, and its format takes the operation's ARG. -/
theorem decode_encode {i : Instr} (hwf : i.wellFormed = true) : decode (encode i) = some i := by
  rw [decode, encode, opcodeField_append, argField_append]
  cases i
  case dbPoll lvl | pinInc lvl | pinDec lvl | pinMode lvl => exact formL_of_isLevel hwf
  case muxDig k => exact formK_of_isDigitIndex hwf
  all_goals rfl

/-- Every branch of the decoder answers an operation with the word's own two fields. -/
theorem hasFields_of_decode {w : EventWord} {i : Instr} (h : decode w = some i) :
    i.HasFields (opcodeField w) (argField w) := by
  unfold decode at h
  split at h <;> rename_i hop
  case h_19 => cases h
  -- format M, at opcode 0x61
  case h_18 => exact (BitVec.eq_of_toNat_eq hop : opcodeField w = 0x61#8) ▸ hasFields_of_formM h
  -- format S, ADC.EOC
  case h_15 => exact hasFields_of_formS h fun a => ⟨rfl, BitVec.eq_of_toNat_eq hop.symm, rfl⟩
  -- format K, MUX.DIG
  case h_4 => exact hasFields_of_formK h fun a ha => ⟨ha, BitVec.eq_of_toNat_eq hop.symm, rfl⟩
  -- format L, DB.POLL and the three pins
  case h_2 | h_10 | h_11 | h_17 =>
    exact hasFields_of_formL h fun a ha => ⟨ha, BitVec.eq_of_toNat_eq hop.symm, rfl⟩
  -- format N
  all_goals exact hasFields_of_formN h ⟨rfl, BitVec.eq_of_toNat_eq hop.symm, rfl⟩

/-- The decoder is the inverse of the encoder on the well-formed operations. -/
theorem decode_eq_some_iff {w : EventWord} {i : Instr} : decode w = some i ↔ i.wellFormed = true ∧ encode i = w := by
  constructor
  · intro h
    have hfields := hasFields_of_decode h
    exact ⟨hfields.wellFormed, hfields.encode_eq⟩
  · rintro ⟨hwf, rfl⟩
    exact decode_encode hwf

/-- Settles O1: the decoder undoes the encoder, format by format. -/
theorem decodeEncodeRoundTrip : Obligations.DecodeEncodeRoundTrip := fun _ => decode_encode

/-- Settles O2: the operation read has the word's own fields, and they are the whole word. -/
theorem encodeDecodeRoundTrip : Obligations.EncodeDecodeRoundTrip := fun _ _ => decode_eq_some_iff.1

/-- Settles O3: the words are closed terms, so the decoder computes. -/
theorem wordsOfTheOpcodeMapDecode : Obligations.WordsOfTheOpcodeMapDecode := by
  unfold Obligations.WordsOfTheOpcodeMapDecode
  decide

/-! ## The opcode map and the reserved words (R61, R65) -/

/-- A row whose mask holds the whole opcode covers the words of its opcode whose ARG byte it matches. -/
theorem covers_iff {r : OpcodeRow} (hmask : opcodeField r.mask = 0xFF#8) (w : EventWord) : r.covers w = true ↔
    opcodeField w = opcodeField r.word ∧ argField w &&& argField r.mask = argField r.word := by
  have hop : opcodeField (w &&& r.mask) = opcodeField w := by
    rw [opcodeField, BitVec.extractLsb'_and]
    change opcodeField w &&& opcodeField r.mask = opcodeField w
    rw [hmask]
    exact BitVec.and_allOnes
  have harg : argField (w &&& r.mask) = argField w &&& argField r.mask := BitVec.extractLsb'_and
  rw [OpcodeRow.covers, beq_iff_eq, ← hop, ← harg]
  constructor
  · intro h
    rw [h]
    exact ⟨rfl, rfl⟩
  · rintro ⟨h1, h2⟩
    rw [← opcodeField_append_argField (w &&& r.mask), h1, h2, opcodeField_append_argField]

theorem opcodeField_mask {r : OpcodeRow} (hr : r ∈ opcodeMap) : opcodeField r.mask = 0xFF#8 := by
  revert r
  decide

/-- A row covers words of its own opcode only. -/
theorem opcodeField_of_covers {r : OpcodeRow} {w : EventWord} (hr : r ∈ opcodeMap) (h : r.covers w = true) :
    opcodeField w = opcodeField r.word :=
  ((covers_iff (opcodeField_mask hr) w).1 h).1

/-- Family 6 is the last: no row has an opcode above 0x61. -/
theorem opcodeField_word_le {r : OpcodeRow} (hr : r ∈ opcodeMap) : (opcodeField r.word).toNat ≤ 0x61 := by
  revert r
  decide

/-- Each row is that of the operation its own word decodes to. -/
theorem exists_row_eq {r : OpcodeRow} (hr : r ∈ opcodeMap) : ∃ i : Instr, i.row = r := by
  have hword : ∀ r ∈ opcodeMap, (decode r.word).map Instr.row = some r := by decide
  obtain ⟨i, -, hi⟩ := Option.map_eq_some_iff.1 (hword r hr)
  exact ⟨i, hi⟩

/-- The mask of an operation's row holds the whole opcode, which is the operation's own. -/
theorem opcodeField_row_mask (i : Instr) : opcodeField i.row.mask = 0xFF#8 := by
  cases i <;> dsimp only [Instr.row] <;> rfl

theorem opcodeField_row_word (i : Instr) : opcodeField i.row.word = i.opcode := by
  cases i <;> dsimp only [Instr.row] <;> rfl

/-- The mask of format L leaves one bit free (R57). -/
theorem isLevel_of_and {arg : Byte} (h : arg &&& 0xFE#8 = 0#8) : isLevel arg = true := by
  revert arg
  decide

/-- The mask of format K leaves two bits free (R57). -/
theorem isDigitIndex_of_and {arg : Byte} (h : arg &&& 0xFC#8 = 0#8) : isDigitIndex arg = true := by
  revert arg
  decide

/-- A word that the row of an operation covers has the fields of a well-formed operation of that row: the operation itself, or
the one with the word's own operand. -/
theorem exists_hasFields_of_covers {i : Instr} {w : EventWord} (h : i.row.covers w = true) :
    ∃ j : Instr, j.HasFields (opcodeField w) (argField w) ∧ j.row = i.row := by
  obtain ⟨hop, harg⟩ := (covers_iff (opcodeField_row_mask i) w).1 h
  rw [opcodeField_row_word, eq_comm] at hop
  cases i <;> dsimp only [Instr.row] at harg
  case dbPoll => exact ⟨.dbPoll (argField w), ⟨isLevel_of_and harg, hop, rfl⟩, rfl⟩
  case pinInc => exact ⟨.pinInc (argField w), ⟨isLevel_of_and harg, hop, rfl⟩, rfl⟩
  case pinDec => exact ⟨.pinDec (argField w), ⟨isLevel_of_and harg, hop, rfl⟩, rfl⟩
  case pinMode => exact ⟨.pinMode (argField w), ⟨isLevel_of_and harg, hop, rfl⟩, rfl⟩
  case muxDig => exact ⟨.muxDig (argField w), ⟨isDigitIndex_of_and harg, hop, rfl⟩, rfl⟩
  case adcEoc => exact ⟨.adcEoc (argField w), ⟨rfl, hop, rfl⟩, rfl⟩
  all_goals exact ⟨_, ⟨rfl, hop, harg.symm.trans BitVec.and_allOnes⟩, rfl⟩

/-- The word of a well-formed operation is covered by the operation's row, whatever the operation. -/
theorem row_covers_encode : ∀ i : Instr, Laws.EncodesItsRow.Statement i
  | .rst => Laws.EncodesItsRow.rst
  | .dbPoll lvl => Laws.EncodesItsRow.dbPoll lvl
  | .muxScan => Laws.EncodesItsRow.muxScan
  | .muxDig k => Laws.EncodesItsRow.muxDig k
  | .tmrStart => Laws.EncodesItsRow.tmrStart
  | .tmrStop => Laws.EncodesItsRow.tmrStop
  | .tmrMatch => Laws.EncodesItsRow.tmrMatch
  | .isrTick => Laws.EncodesItsRow.isrTick
  | .edgeEnable => Laws.EncodesItsRow.edgeEnable
  | .pinInc lvl => Laws.EncodesItsRow.pinInc lvl
  | .pinDec lvl => Laws.EncodesItsRow.pinDec lvl
  | .isrInc => Laws.EncodesItsRow.isrInc
  | .isrDec => Laws.EncodesItsRow.isrDec
  | .adcArm => Laws.EncodesItsRow.adcArm
  | .adcEoc sample => Laws.EncodesItsRow.adcEoc sample
  | .isrAdc => Laws.EncodesItsRow.isrAdc
  | .pinMode lvl => Laws.EncodesItsRow.pinMode lvl
  | .mPoll => Laws.EncodesItsRow.mPoll
  | .mPress => Laws.EncodesItsRow.mPress
  | .mSelect => Laws.EncodesItsRow.mSelect
  | .mAutoCmp => Laws.EncodesItsRow.mAutoCmp
  | .mAutoClr => Laws.EncodesItsRow.mAutoClr
  | .mAutoAdv => Laws.EncodesItsRow.mAutoAdv
  | .mAnaArm => Laws.EncodesItsRow.mAnaArm
  | .mAnaRd => Laws.EncodesItsRow.mAnaRd
  | .mAnaWr => Laws.EncodesItsRow.mAnaWr
  | .mAnaRd2 => Laws.EncodesItsRow.mAnaRd2
  | .mAnaInc => Laws.EncodesItsRow.mAnaInc
  | .mTrans => Laws.EncodesItsRow.mTrans
  | .mDig0 => Laws.EncodesItsRow.mDig0
  | .mDig1 => Laws.EncodesItsRow.mDig1
  | .mDig2 => Laws.EncodesItsRow.mDig2
  | .mDig3 => Laws.EncodesItsRow.mDig3

/-- A word that no row covers does not decode: the operation it stood for would have a row, and that row would cover it. -/
theorem decode_eq_none_of_uncovered {w : EventWord} (h : ∀ r ∈ opcodeMap, r.covers w = false) : decode w = none := by
  refine Option.eq_none_iff_forall_not_mem.2 fun i hi => ?_
  obtain ⟨hwf, rfl⟩ := decode_eq_some_iff.1 hi
  obtain ⟨hrow, hcovers⟩ := row_covers_encode i hwf
  simp [h i.row hrow] at hcovers

/-- A word that a row covers decodes to an operation of that row. -/
theorem decode_of_covers {r : OpcodeRow} {w : EventWord} (hr : r ∈ opcodeMap) (h : r.covers w = true) :
    ∃ i, decode w = some i ∧ i.row = r := by
  obtain ⟨i, rfl⟩ := exists_row_eq hr
  obtain ⟨j, hfields, hrow⟩ := exists_hasFields_of_covers h
  exact ⟨j, decode_eq_some_iff.2 ⟨hfields.wellFormed, hfields.encode_eq⟩, hrow⟩

/-- A word that does not decode is reserved. -/
theorem uncovered_of_decode_eq_none {w : EventWord} (h : decode w = none) {r : OpcodeRow} (hr : r ∈ opcodeMap) :
    r.covers w = false := by
  refine Bool.eq_false_iff.2 fun hcovers => ?_
  obtain ⟨i, hi, -⟩ := decode_of_covers hr hcovers
  simp [h] at hi

/-- The families 7 to 15 are reserved. -/
theorem uncovered_of_high_family {w : EventWord} (hw : 0x7000 ≤ w.toNat) {r : OpcodeRow} (hr : r ∈ opcodeMap) :
    r.covers w = false := by
  refine Bool.eq_false_iff.2 fun h => ?_
  have hop : (opcodeField w).toNat = w.toNat / 256 := by
    have := w.isLt
    simp [opcodeField, Nat.shiftRight_eq_div_pow]
    omega
  have hle := opcodeField_word_le hr
  rw [← opcodeField_of_covers hr h, hop] at hle
  omega

end Sys2Proof

namespace Sys2Proof.Machine

/-- A reserved word is refused wherever it was scheduled (R65). -/
theorem step_reserved {s : State} {w : EventWord} {rest : List EventWord} (hschedule : s.schedule = w :: rest)
    (hdecode : decode w = none) : step s = .refused (.reservedWord w) := by
  simp only [step, fetch_scheduled hschedule, hdecode]

/-- Settles O4: the reserved words are those without a row, as a word decodes exactly when a row covers it. -/
theorem reservedWordsAreRefused : Obligations.ReservedWordsAreRefused := by
  refine ⟨?_, ?_, ?_, ?_, ?_⟩
  · intro s w rest hschedule hrows
    exact step_reserved hschedule (decode_eq_none_of_uncovered hrows)
  · intro w r
    exact decode_of_covers
  · intro w hw r
    exact uncovered_of_high_family hw
  · intro w hop r hr
    exact Bool.eq_false_iff.2 fun h => hop r hr (opcodeField_of_covers hr h)
  · intro w hw r
    have hnone : decode w = none := by
      simp only [List.mem_cons, List.not_mem_nil, or_false] at hw
      rcases hw with rfl | rfl | rfl | rfl <;> rfl
    exact uncovered_of_decode_eq_none hnone

/-! ## When an operation runs (R56) -/

section
variable {i : Instr} {s : State}

/-- An enabled operation has nothing left to be refused for, and answers its effect. -/
theorem exec_of_enabled (hi : i ≠ .rst) (hwf : i.wellFormed = true) (hs : s.inRange = true)
    (hti : i = .mAnaWr → s.ti.toNat ≤ 3) (hen : enabledIn i s = true) : exec i s = .next (effect i s) := by
  have hti' : ¬ (i = .mAnaWr ∧ 3 < s.ti.toNat) := fun ⟨hi, h⟩ => absurd (hti hi) (not_le.2 h)
  have hrefusal : refusalOf i s = none := by simp [refusalOf, hs, hen, hwf, hti']
  rw [exec_eq_answerOf hi, answerOf, hrefusal]
  rfl

/-- With RST, whose answer is not its effect but the reset table. -/
theorem exists_exec_next (hwf : i.wellFormed = true) (hs : s.inRange = true) (hti : i = .mAnaWr → s.ti.toNat ≤ 3)
    (hen : enabledIn i s = true) : ∃ t, exec i s = .next t := by
  by_cases hi : i = .rst
  · subst i
    exact ⟨_, exec_rst s⟩
  · exact ⟨_, exec_of_enabled hi hwf hs hti hen⟩

/-- Only a handler or a micro-step can be disabled, and for each of them the refusal has a name. -/
theorem exists_notNext (hen : enabledIn i s = false) : ∃ r, notNext (agentClass i) = some r := by
  unfold enabledIn at hen
  cases hclass : agentClass i with
  | env | prim => simp [hclass] at hen
  | isr x => exact ⟨_, rfl⟩
  | micro n => exact ⟨_, rfl⟩

theorem exec_of_disabled {r : Refusal} (hs : s.inRange = true) (hen : enabledIn i s = false)
    (hr : notNext (agentClass i) = some r) : exec i s = .refused r := by
  have hi : i ≠ .rst := by
    rintro rfl
    cases hen
  have hrefusal : refusalOf i s = some r := by simp [refusalOf, hs, hen, hr]
  rw [exec_eq_answerOf hi, answerOf, hrefusal]
  rfl

/-- An operand can be out of format only where the operation is always enabled. -/
theorem enabledIn_of_not_wellFormed (s : State) (hwf : i.wellFormed = false) : enabledIn i s = true := by
  cases i
  case dbPoll | pinInc | pinDec | pinMode | muxDig => rfl
  all_goals cases hwf

theorem exec_of_not_wellFormed (hs : s.inRange = true) (hwf : i.wellFormed = false) :
    exec i s = .refused .operandOutOfFormat := by
  have hi : i ≠ .rst := by
    rintro rfl
    cases hwf
  have hrefusal : refusalOf i s = some .operandOutOfFormat := by
    simp [refusalOf, hs, enabledIn_of_not_wellFormed s hwf, hwf]
  rw [exec_eq_answerOf hi, answerOf, hrefusal]
  rfl

end

/-- Settles O8: the refusals of exec in a state in range are those of the agent classes. -/
theorem operationsRunExactlyWhenEnabled : Obligations.OperationsRunExactlyWhenEnabled := by
  intro i s hwf hs hti
  refine ⟨exists_exec_next hwf hs hti, fun hen => ?_⟩
  obtain ⟨r, hr⟩ := exists_notNext hen
  exact ⟨r, exec_of_disabled hs hen hr⟩

/-- Settles O9: the decoder reads well-formed operations only, and exec checks the format. -/
theorem operandsOutOfFormatAreRefused : Obligations.OperandsOutOfFormatAreRefused := by
  intro i s hs hwf
  refine ⟨exec_of_not_wellFormed hs hwf, fun w hdecode => ?_⟩
  simp [(decode_eq_some_iff.1 hdecode).1] at hwf

/-! ## Placing a word from outside -/

/-- What placing a word may change beside the schedule: one pending flag or MainPC. -/
theorem makeNext_cases (s : State) (w : EventWord) :
    s.makeNext w = s ∨ (∃ x, s.makeNext w = s.setPending x) ∨ ∃ n, s.makeNext w = s.goto n := by
  unfold State.makeNext
  split
  case h_5 =>
    split
    · exact .inr (.inr ⟨_, rfl⟩)
    · exact .inl rfl
  all_goals exact .inr (.inl ⟨_, rfl⟩)

theorem makeNext_inRange (s : State) (w : EventWord) : (s.makeNext w).inRange = s.inRange := by
  rcases makeNext_cases s w with h | ⟨x, h⟩ | ⟨n, h⟩ <;> rw [h]
  · simp [State.inRange]
  · rfl

theorem makeNext_ti (s : State) (w : EventWord) : (s.makeNext w).ti = s.ti := by
  rcases makeNext_cases s w with h | ⟨x, h⟩ | ⟨n, h⟩ <;> simp [h]

/-- An operation whose word is placed is enabled: its handler's flag is set, or MainPC is its index. -/
theorem enabledIn_makeNext_encode (i : Instr) (s : State) : enabledIn i (s.makeNext (encode i)) = true := by
  cases i
  case isrTick => exact State.pending_setPending_self s .tick
  case isrInc => exact State.pending_setPending_self s .inc
  case isrDec => exact State.pending_setPending_self s .dec
  case isrAdc => exact State.pending_setPending_self s .adc
  all_goals rfl

/-- Settles O10: the placed word is the head of the schedule, and what it decodes to is enabled. -/
theorem placedWordsRunNext : Obligations.PlacedWordsRunNext := by
  intro w i s hs hdecode hti
  obtain ⟨hwf, hw⟩ := decode_eq_some_iff.1 hdecode
  have hplaced : s.withFetchWord 16 w.toNat = { s.makeNext w with schedule := w :: s.schedule } := by
    simp [State.withFetchWord]
  rw [hplaced]
  have hstep : step { s.makeNext w with schedule := w :: s.schedule } = exec i { s.makeNext w with schedule := s.schedule } :=
    step_of_fetch (fetch_scheduled rfl) hdecode
  refine ⟨hstep, ?_⟩
  rw [hstep]
  refine exists_exec_next hwf ((makeNext_inRange s w).trans hs) (fun hi => ?_) ?_
  · exact (congrArg BitVec.toNat (makeNext_ti s w)).trans_le (hti hi)
  · subst w
    exact enabledIn_makeNext_encode i s

/-! ## The micro-steps by their words (R60) -/

/-- The word 0x6100 + n is that of the operation with micro-step index n. -/
theorem exists_decode_micro (n : BitVec 4) :
    ∃ i, decode (0x6100#16 + n.setWidth 16) = some i ∧ agentClass i = .micro n := by
  have hclass : ∀ n : BitVec 4, (decode (0x6100#16 + n.setWidth 16)).map agentClass = some (.micro n) := by decide
  exact Option.map_eq_some_iff.1 (hclass n)

/-- M.ANA.WR in its turn is refused where t.i names no position. -/
theorem exec_mAnaWr_of_three_lt_ti {s : State} (hs : s.inRange = true) (hpc : s.mainPC = 8#4) (hti : 3 < s.ti.toNat) :
    exec .mAnaWr s = .refused .stateOutOfRange := by
  have hen : enabledIn .mAnaWr s = true := (enabledIn_micro rfl).2 hpc
  have hrefusal : refusalOf .mAnaWr s = some .stateOutOfRange := by
    simp [refusalOf, hs, hen, Instr.wellFormed, hti]
  rw [exec_eq_answerOf (by simp), answerOf, hrefusal]
  rfl

/-- Settles O11: the micro-step of the index is the only one of its class, so it is M.ANA.WR exactly at n = 8. -/
theorem microStepsFollowTheIterationTable : Obligations.MicroStepsFollowTheIterationTable := by
  intro n s hs
  obtain ⟨i, hdecode, hclass⟩ := exists_decode_micro n
  refine ⟨i, hdecode, ?_⟩
  split
  case isFalse hpc =>
    have hen : enabledIn i s = false := Bool.eq_false_iff.2 (mt (enabledIn_micro hclass).1 hpc)
    exact exec_of_disabled hs hen (by rw [hclass]; rfl)
  case isTrue hpc =>
    split
    case isTrue hwr =>
      obtain ⟨rfl, hti⟩ := hwr
      obtain rfl : i = .mAnaWr := micro_unique hclass rfl
      exact exec_mAnaWr_of_three_lt_ti hs hpc hti
    case isFalse hwr =>
      have hi : i ≠ .rst := by
        rintro rfl
        cases hclass
      have hti : i = .mAnaWr → s.ti.toNat ≤ 3 := by
        rintro rfl
        cases hclass
        exact not_lt.1 fun h => hwr ⟨rfl, h⟩
      have hwf := (decode_eq_some_iff.1 hdecode).1
      have hen := (enabledIn_micro hclass).2 hpc
      exact ⟨effect i s, exec_of_enabled hi hwf hs hti hen, effect_mainPC_of_micro s hclass⟩

end Sys2Proof.Machine

/-! ## The debouncer (R71, R73) -/

namespace Sys2Proof.Machine

/-- A byte of value 0 or 1 is a level (R57). -/
theorem isLevel_of_toNat_le {lvl : Byte} (h : lvl.toNat ≤ 1) : isLevel lvl = true := decide_eq_true h

/-- The line is active low: an operand 0, the pressed button, is logical 1 (R58). -/
theorem logicalLevel_beq_one {lvl : Byte} (hl : isLevel lvl = true) :
    logicalLevel (lvl == 1#8) = decide (lvl = 0#8) := by
  rcases (isLevel_iff lvl).1 hl with rfl | rfl
  · rfl
  · rfl

/-- The event word of DB.POLL carries the level in its last bit (R57, R61). -/
theorem encode_dbPoll (lvl : Byte) : encode (.dbPoll lvl) = 0x1000#16 ||| lvl.setWidth 16 :=
  BitVec.append_def 0x10#8 lvl

/-- DB.POLL is always enabled: on a level it answers the poll. -/
theorem exec_dbPoll {lvl : Byte} {s : State} (hl : isLevel lvl = true) (hs : s.inRange = true) :
    exec (.dbPoll lvl) s = .next (s.debounce (lvl == 1#8)) :=
  exec_of_enabled (by simp) hl hs (by simp) rfl

/-- Settles O13: the poll is one record update, whose edge compares the two samples just written. -/
theorem dbPollReportsTheRisingEdge : Obligations.DbPollReportsTheRisingEdge := by
  refine ⟨fun lvl hl => ?_, fun lvl s hl hs => ?_⟩
  · exact decode_eq_some_iff.2 ⟨isLevel_of_toNat_le hl, encode_dbPoll lvl⟩
  · have hlvl := isLevel_of_toNat_le hl
    rw [exec_dbPoll hlvl hs, State.debounce, logicalLevel_beq_one hlvl]
    simp [risingEdge]

/-! ### Sequences of polls -/

/-- The results of polling these levels after the logical level prev, without the machine. -/
def edgeResults (prev : Bool) : List Byte → List Bool
  | [] => []
  | lvl :: rest => risingEdge prev (decide (lvl = 0#8)) :: edgeResults (decide (lvl = 0#8)) rest

/-- The machine's results depend on the sample BtnCur and the levels only. -/
theorem pollResults_eq {lvls : List Byte} (hl : ∀ l ∈ lvls, isLevel l = true) {s : State} (hs : s.inRange = true) :
    pollResults lvls s = some (edgeResults s.btnCur lvls) := by
  induction lvls generalizing s with
  | nil => rfl
  | cons lvl rest ih =>
    obtain ⟨hlvl, hrest⟩ := List.forall_mem_cons.1 hl
    have hs' : (s.debounce (lvl == 1#8)).inRange = true := hs
    simp [pollResults, exec_dbPoll hlvl hs, ih hrest hs', edgeResults, logicalLevel_beq_one hlvl]

theorem length_edgeResults (prev : Bool) (lvls : List Byte) : (edgeResults prev lvls).length = lvls.length := by
  induction lvls generalizing prev with
  | nil => rfl
  | cons lvl rest ih => simp [edgeResults, ih]

theorem count_edgeResults (prev : Bool) (lvls : List Byte) :
    (edgeResults prev lvls).count true = risingEdges prev lvls := by
  induction lvls generalizing prev with
  | nil => rfl
  | cons lvl rest ih => simp [edgeResults, risingEdges, risingEdge, List.count_cons, ih, Nat.add_comm]

/-- After logical 1 the next poll finds no rising edge. -/
theorem head_edgeResults_ne_true (lvls : List Byte) : (edgeResults true lvls)[0]? ≠ some true := by
  cases lvls <;> simp [edgeResults, risingEdge]

/-- A result 1 leaves logical 1 behind, so the result after it is not 1. -/
theorem edgeResults_not_adjacent (prev : Bool) (lvls : List Byte) (j : Nat)
    (hj : (edgeResults prev lvls)[j]? = some true) : (edgeResults prev lvls)[j + 1]? ≠ some true := by
  induction lvls generalizing prev j with
  | nil => simp [edgeResults]
  | cons lvl rest ih =>
    rw [edgeResults, List.getElem?_cons_succ]
    cases j with
    | zero =>
      obtain ⟨-, hcur⟩ : prev = false ∧ lvl = 0#8 := by simpa [edgeResults, risingEdge] using hj
      rw [decide_eq_true hcur]
      exact head_edgeResults_ne_true rest
    | succ j => exact ih _ j hj

/-- Settles O14: by induction over the levels the results are the edges of the logical levels. -/
theorem pollsCountRisingEdges : Obligations.PollsCountRisingEdges := by
  intro lvls s hs hl
  have hresults : pollResults lvls s = some (edgeResults s.btnCur lvls) :=
    pollResults_eq (fun l hmem => isLevel_of_toNat_le (hl l hmem)) hs
  exact ⟨_, hresults, length_edgeResults _ _, count_edgeResults _ _, edgeResults_not_adjacent _ _⟩

end Sys2Proof.Machine

/-! ## States out of range (R84) -/

namespace Sys2Proof.Machine

/-- A bound on every Digits[k] is a bound on each of the four. -/
theorem Digits.forall_get_le_iff {ds : Digits} {n : Nat} : (∀ k, (ds.get k).toNat ≤ n) ↔
    ds.d0.toNat ≤ n ∧ ds.d1.toNat ≤ n ∧ ds.d2.toNat ≤ n ∧ ds.d3.toNat ≤ n := by
  constructor
  · intro h
    exact ⟨h 0#2, h 1#2, h 2#2, h 3#2⟩
  · rintro ⟨h0, h1, h2, h3⟩ k
    rcases ds.get_cases k with hk | hk | hk | hk <;> rwa [hk]

/-- Settles O7: the range check comes before everything else an operation tests, and it is the table of R10. -/
theorem outOfRangeStatesAreRefused : Obligations.OutOfRangeStatesAreRefused := by
  constructor
  · intro i s hi hs
    have hrefusal : refusalOf i s = some .stateOutOfRange := by simp [refusalOf, hs]
    rw [exec_eq_answerOf hi, answerOf, hrefusal]
    rfl
  · intro s
    simp only [inRange_iff, Digits.forall_get_le_iff, and_assoc, tickW]

end Sys2Proof.Machine

/-! ## The display multiplexer (R76 to R82) -/

namespace Sys2Proof.Machine

/-! ### What one scan step shows -/

theorem position_toNat {p : Byte} (hp : p.toNat ≤ 3) : (position p).toNat = p.toNat := by
  rw [position, BitVec.toNat_setWidth]
  exact Nat.mod_eq_of_lt (Nat.lt_succ_of_le hp)

/-- Lighting a position in range shows it, with the digit the state holds for it (R77). -/
theorem shows_light (s : State) {p : Byte} (hp : p.toNat ≤ 3) : shows s p.toNat (s.light p).displayPort := by
  have hpos : BitVec.ofNat 2 p.toNat = position p := BitVec.ofNat_toNat 2 p
  constructor
  · intro k hk
    rw [State.light_displayPort, portByte_enable _ _ _ _ hk, position_toNat hp]
  · rw [State.light_displayPort, portByte_pattern, hpos]

theorem scanned_scanStep {s : State} (hs : s.inRange = true) : scanned s s.scanStep := by
  obtain ⟨-, -, -, -, -, -, -, -, -, hscan, -⟩ := (inRange_iff s).1 hs
  exact ⟨shows_light s hscan, rfl, nextPosition_toNat _⟩

/-- The operations that make one whole scan step (R76, R82). -/
abbrev scanners : List Instr := [.muxScan, .isrTick, .isrInc, .isrDec]

/-- A handler's other writes leave the scan step as MUX.SCAN would have made it (R91, R98, R99). -/
theorem effect_of_mem_scanners {i : Instr} (hi : i ∈ scanners) (s : State) :
    (effect i s).displayPort = s.scanStep.displayPort ∧ (effect i s).portTrace = s.scanStep.portTrace
      ∧ (effect i s).scanIndex = s.scanStep.scanIndex := by
  simp only [List.mem_cons, List.not_mem_nil, or_false] at hi
  rcases hi with rfl | rfl | rfl | rfl <;> exact ⟨rfl, rfl, rfl⟩

theorem effect_scanned {i : Instr} {s : State} (hi : i ∈ scanners) (hs : s.inRange = true) :
    scanned s (effect i s) := by
  obtain ⟨hport, htrace, hindex⟩ := effect_of_mem_scanners hi s
  rw [scanned, hport, htrace, hindex]
  exact scanned_scanStep hs

/-! ### The scan order -/

/-- One more scan step goes on with the order: the history grows by the position ScanIndex named. -/
theorem scanInOrder_of_scanned {s t : State} (h : s.scanInOrder) (hscan : scanned s t) : t.scanInOrder := by
  obtain ⟨hindex, horder⟩ := h
  obtain ⟨⟨hline, -⟩, htrace, hnext⟩ := hscan
  constructor
  · rw [hnext, htrace, List.length_append, List.length_singleton, hindex, Nat.mod_add_mod]
  · intro j b hj
    rw [htrace, List.getElem?_append] at hj
    split at hj
    · exact horder j b hj
    · obtain ⟨hlast, rfl⟩ : j - s.portTrace.length = 0 ∧ t.displayPort = b := by
        simpa [List.getElem?_singleton] using hj
      have hend : j = s.portTrace.length := by omega
      rwa [hend, ← hindex]

/-- Outside the scan steps and the split scan neither ScanIndex nor the history changes (R38). -/
theorem effect_scanInOrder {i : Instr} {s : State} (hwr : i ≠ .mAnaWr) (hinc : i ≠ .mAnaInc) (hs : s.inRange = true)
    (h : s.scanInOrder) : (effect i s).scanInOrder := by
  by_cases hi : i ∈ scanners
  · exact scanInOrder_of_scanned h (effect_scanned hi hs)
  · have own := owners i
    have hindex : (effect i s).scanIndex = s.scanIndex := own.scanIndex.resolve_right (by simpa [hinc] using hi) s
    have htrace : (effect i s).portTrace = s.portTrace := own.portTrace.resolve_right (by simpa [hwr] using hi) s
    rwa [State.scanInOrder, hindex, htrace]

/-- Settles O18: RST empties the history, a scan step extends it in order, and nothing else touches it. -/
theorem scanOrderIsKept : Obligations.ScanOrderIsKept := by
  intro i s t hwr hinc h hexec
  by_cases hi : i = .rst
  · subst hi
    rw [exec_rst_eq] at hexec
    cases hexec
    obtain ⟨-, -, -, -, hreset⟩ := resetStateIsSound s.cfg
    exact hreset
  · obtain ⟨hs, -, -, -, rfl⟩ := exec_next hi hexec
    exact effect_scanInOrder hwr hinc hs h

/-! ### The port bytes -/

/-- The line that is low is the position's own, whatever the digit and its pattern (R63). -/
theorem oneEnableLow_portByte (c : SegCode) (p : BitVec 2) (d : BitVec 4) : oneEnableLow (portByte c p d) :=
  ⟨p.toNat, p.isLt, portByte_enable c p d⟩

/-- A write to the port is its last byte from then on (R42). -/
theorem portSound_of_write {s t : State} (h : s.portSound) (htrace : t.portTrace = s.portTrace ++ [t.displayPort])
    (hlow : oneEnableLow t.displayPort) : t.portSound := by
  obtain ⟨hall, -⟩ := h
  constructor
  · rw [htrace]
    exact List.forall_mem_append.2 ⟨hall, List.forall_mem_singleton.2 hlow⟩
  · intro b hb
    rw [htrace, List.getLast?_concat] at hb
    exact Option.some.inj hb

/-- An operation leaves the port and its history alone or lights one position (R42, R77). -/
theorem effect_port (i : Instr) (s : State) :
    ((effect i s).displayPort = s.displayPort ∧ (effect i s).portTrace = s.portTrace)
      ∨ ∃ p, (effect i s).displayPort = (s.light p).displayPort ∧ (effect i s).portTrace = (s.light p).portTrace := by
  by_cases hi : i ∈ scanners
  · obtain ⟨hport, htrace, -⟩ := effect_of_mem_scanners hi s
    exact .inr ⟨s.scanIndex, hport, htrace⟩
  by_cases hwr : i = .mAnaWr
  · subst hwr
    exact .inr ⟨s.ti, rfl, rfl⟩
  · have own := owners i
    exact .inl ⟨own.displayPort.resolve_right (by simpa [hwr] using hi) s,
      own.portTrace.resolve_right (by simpa [hwr] using hi) s⟩

theorem effect_portSound (i : Instr) {s : State} (h : s.portSound) : (effect i s).portSound := by
  rcases effect_port i s with ⟨hport, htrace⟩ | ⟨p, hport, htrace⟩
  · rwa [State.portSound, hport, htrace]
  · refine portSound_of_write h ?_ ?_
    · rw [htrace, hport]
      rfl
    · rw [hport]
      exact oneEnableLow_portByte _ _ _

/-- Settles O19: after RST nothing has been written, and every later write is a port byte. -/
theorem portBytesKeepOneEnableLow : Obligations.PortBytesKeepOneEnableLow := by
  intro s t hs h
  refine step_preserves (P := State.portSound) (fun _ _ hs => hs) (fun s => ?_)
    (fun i _ _ _ hs => effect_portSound i hs) hs h
  obtain ⟨-, -, -, hreset, -⟩ := resetStateIsSound s.cfg
  exact hreset

/-! ### MUX.SCAN -/

/-- Under the default code the byte is the enable lines' nibble and the digit, as one number (R77, R81). -/
theorem portByte_bcd_toNat (p : BitVec 2) (d : BitVec 4) :
    (portByte .bcd p d).toNat = (enableLines p).toNat * 2 ^ 4 + d.toNat := by
  rw [portByte, segPattern, BitVec.toNat_append, ← Nat.shiftLeft_add_eq_or_of_lt d.isLt, Nat.shiftLeft_eq]

theorem scanStep_displayPort_bcd {s : State} (hcode : s.cfg.segEncode = .bcd) : s.scanStep.displayPort.toNat =
    (enableLines (position s.scanIndex)).toNat * 2 ^ 4 + (s.digits.get (position s.scanIndex)).toNat := by
  rw [State.scanStep_displayPort, hcode, portByte_bcd_toNat]

/-- Settles O15: MUX.SCAN is the scan step, whose byte under the default code is read off at each position. -/
theorem muxScanLightsAndAdvances : Obligations.MuxScanLightsAndAdvances := by
  refine ⟨rfl, fun s hs => ?_⟩
  refine ⟨s.scanStep, guarded_inRange hs _, scanned_scanStep hs, rfl, fun hcode => ?_⟩
  have hbyte := scanStep_displayPort_bcd hcode
  refine ⟨?_, ?_, ?_, ?_⟩
  all_goals
    intro hindex
    rw [hbyte, hindex]
    rfl

/-! ### MUX.DIG -/

/-- The event word of MUX.DIG carries the digit index in its last two bits (R57, R61). -/
theorem encode_muxDig (k : Byte) : encode (.muxDig k) = 0x2100#16 ||| k.setWidth 16 :=
  BitVec.append_def 0x21#8 k

/-- MUX.DIG is always enabled: on a digit index it answers the digit written. -/
theorem exec_muxDig (k : BitVec 2) {s : State} (hs : s.inRange = true) :
    exec (.muxDig (k.setWidth 8)) s = .next (s.writeDigit k) := by
  have hwf : ∀ k : BitVec 2, isDigitIndex (k.setWidth 8) = true := by decide
  have hindex : (k.setWidth 8).setWidth 2 = k := by simp
  rw [exec_of_enabled (i := .muxDig (k.setWidth 8)) (by simp) (hwf k) hs (by simp) rfl, effect, hindex]

/-- Settles O16: the digits of the four writes are those of DisplayValue, whose thousands digit is 0 in range. -/
theorem muxDigWritesOneDigit : Obligations.MuxDigWritesOneDigit := by
  refine ⟨fun k hk => ?_, fun s hs => ?_⟩
  · exact decode_eq_some_iff.2 ⟨decide_eq_true hk, encode_muxDig k⟩
  · obtain ⟨-, -, -, -, hvalue, -⟩ := (inRange_iff s).1 hs
    obtain ⟨h0, h1, h2, h3⟩ := digit_toNat s.displayValue
    have hzero : digit 0#2 s.displayValue = 0#4 := BitVec.eq_of_toNat_eq (by simp; omega)
    exact ⟨fun k => (s.writeDigit k).digits, fun k => exec_muxDig k hs, h0, h1, h2, h3, rfl, rfl, rfl, rfl, hzero⟩

/-! ### The decomposition -/

/-- Settles O17: the law is arithmetic on the four digits as numbers. -/
theorem digitsRecomposeTheValue : Obligations.DigitsRecomposeTheValue := by
  intro v hv
  obtain ⟨h0, h1, h2, h3⟩ := digit_toNat v
  exact ⟨h0, h1, h2, h3, by omega, fun k => digit_le_nine k v, by omega⟩

end Sys2Proof.Machine

/-! ## The tick timer (R86 to R91) -/

namespace Sys2Proof.Machine

/-! ### Starting and stopping -/

/-- A register given the value it holds leaves the state as it is: R86's and R87's idempotence. -/
theorem withTimerRunning_of_eq {s : State} {b : Bool} (h : s.timerRunning = b) : { s with timerRunning := b } = s :=
  h ▸ rfl

section
variable {s : State} (hs : s.inRange = true)
include hs

/-- TMR.START is always enabled. -/
theorem exec_tmrStart : exec .tmrStart s = .next { s with timerRunning := true } :=
  exec_of_enabled (by simp) rfl hs (by simp) rfl

/-- TMR.STOP is always enabled. -/
theorem exec_tmrStop : exec .tmrStop s = .next { s with timerRunning := false } :=
  exec_of_enabled (by simp) rfl hs (by simp) rfl

end

/-! ### The compare match -/

/-- An event at an enabled source is latched (R138 to R141). -/
theorem latch_of_enabled {s : State} {x : Source} (h : s.enabled x = true) : s.latch x true = s.setPending x := by
  simp [State.latch, h]

/-- An event at a disabled source is lost (R138 to R141). -/
theorem latch_of_disabled {s : State} {x : Source} (h : s.enabled x = false) (event : Bool) : s.latch x event = s := by
  simp [State.latch, h]

section
variable {s : State} (hs : s.inRange = true)
include hs

/-- TMR.MATCH is accepted whether or not the timer runs (R88). -/
theorem exec_tmrMatch : exec .tmrMatch s = .next (s.latch .tick true) :=
  exec_of_enabled (by simp) rfl hs (by simp) rfl

theorem exec_tmrMatch_of_running (hrun : s.timerRunning = true) :
    exec .tmrMatch s = .next { s with pendTick := true } := by
  rw [exec_tmrMatch hs, latch_of_enabled (x := .tick) hrun, State.setPending]

theorem exec_tmrMatch_of_stopped (hstop : s.timerRunning = false) : exec .tmrMatch s = .next s := by
  rw [exec_tmrMatch hs, latch_of_disabled (x := .tick) hstop]

/-- The timer's two calls keep the ranges, so a match may follow each of them. -/
theorem execAll_tmrStart_tmrMatch :
    execAll [.tmrStart, .tmrMatch] s = some { s with timerRunning := true, pendTick := true } := by
  have hmatch : exec .tmrMatch { s with timerRunning := true }
      = .next { s with timerRunning := true, pendTick := true } := exec_tmrMatch_of_running hs rfl
  rw [execAll_cons_next (exec_tmrStart hs), execAll_cons_next hmatch, execAll_nil]

theorem execAll_tmrStop_tmrMatch :
    execAll [.tmrStop, .tmrMatch] s = some { s with timerRunning := false } := by
  have hmatch : exec .tmrMatch { s with timerRunning := false } = .next { s with timerRunning := false } :=
    exec_tmrMatch_of_stopped hs rfl
  rw [execAll_cons_next (exec_tmrStop hs), execAll_cons_next hmatch, execAll_nil]

end

/-- Settles O20: each call writes TimerRunning only, and a match after it meets the timer it left. -/
theorem timerStartAndStop : Obligations.TimerStartAndStop := by
  refine ⟨rfl, rfl, fun s hs => ?_⟩
  refine ⟨exec_tmrStart hs, exec_tmrStop hs, fun hrun => ?_, fun hstop => ⟨?_, exec_tmrMatch_of_stopped hs hstop⟩,
    execAll_tmrStart_tmrMatch hs, execAll_tmrStop_tmrMatch hs⟩
  · rw [exec_tmrStart hs, withTimerRunning_of_eq hrun]
  · rw [exec_tmrStop hs, withTimerRunning_of_eq hstop]

/-- Settles O21: the match is an event at the tick source, whose enable is TimerRunning. -/
theorem timerMatchIsLatched : Obligations.TimerMatchIsLatched :=
  ⟨rfl, fun _ hs => ⟨exec_tmrMatch_of_running hs, exec_tmrMatch_of_stopped hs⟩⟩

/-! ### ISR.TICK -/

/-- The handler writes its own flag, the three registers of a scan step and TickCount; no mode enters (R91). -/
theorem effect_isrTick (s : State) : effect .isrTick s = { s.scanStep with
    pendTick := false
    tickCount := (s.tickCount + 1) % 2 ^ (3 + s.cfg.tickWAbove3) } := rfl

theorem exec_isrTick_of_pending {s : State} (hs : s.inRange = true) (hpend : s.pendTick = true) :
    exec .isrTick s = .next { s.scanStep with
      pendTick := false
      tickCount := (s.tickCount + 1) % 2 ^ (3 + s.cfg.tickWAbove3) } := by
  rw [← effect_isrTick]
  exact exec_of_enabled (by simp) rfl hs (by simp) hpend

theorem exec_isrTick_of_not_pending {s : State} (hs : s.inRange = true) (hpend : s.pendTick = false) :
    exec .isrTick s = .refused (.handlerNotPending .tick) :=
  exec_of_disabled hs hpend rfl

/-- Settles O22: the handler's effect is a scan step with the flag cleared and the tick counted. -/
theorem isrTickScansAndCounts : Obligations.IsrTickScansAndCounts := by
  refine ⟨rfl, fun s hs => ⟨fun hpend => ?_, exec_isrTick_of_not_pending hs⟩⟩
  have hscan : scanned s (effect .isrTick s) := effect_scanned (by simp) hs
  rw [effect_isrTick] at hscan
  exact ⟨_, exec_isrTick_of_pending hs hpend, rfl, hscan, rfl, rfl⟩

end Sys2Proof.Machine

/-! ## The edge counters (R94 to R102) -/

namespace Sys2Proof.Machine

/-! ### The enables and the lines -/

/-- EDGE.ENABLE is always enabled. -/
theorem exec_edgeEnable {s : State} (hs : s.inRange = true) : exec .edgeEnable s = .next s.enableEdges :=
  exec_of_enabled (by simp) rfl hs (by simp) rfl

theorem enableEdges_of_enabled {s : State} (hinc : s.incEnabled = true) (hdec : s.decEnabled = true) :
    s.enableEdges = s := by
  obtain ⟨⟩ := s
  subst hinc hdec
  rfl

/-- Settles O24: EDGE.ENABLE writes the two enables, and where both stand nothing is left to write. -/
theorem edgeEnableSetsBothEnables : Obligations.EdgeEnableSetsBothEnables := by
  refine ⟨rfl, fun s hs => ⟨exec_edgeEnable hs, fun hinc hdec => ?_⟩⟩
  rw [exec_edgeEnable hs, enableEdges_of_enabled hinc hdec]

/-- Without an event nothing is latched, whether or not the source is enabled. -/
theorem latch_of_no_event (s : State) (x : Source) : s.latch x false = s := rfl

/-- A line driven to 1 makes no qualifying edge: a release, or a line already released (R95 to R97). -/
theorem qualifyingEdge_to_one (old : Bool) : qualifyingEdge old true = false := Bool.and_false old

/-- A line driven to 0 makes a qualifying edge exactly where it was 1 (R95 to R97). -/
theorem qualifyingEdge_to_zero (old : Bool) : qualifyingEdge old false = old := Bool.and_true old

theorem latch_inc_eq (s : State) (event : Bool) :
    s.latch .inc event = { s with pendInc := decide (s.pendInc = true ∨ (event = true ∧ s.incEnabled = true)) } := by
  simp [latch_eq]

theorem latch_dec_eq (s : State) (event : Bool) :
    s.latch .dec event = { s with pendDec := decide (s.pendDec = true ∨ (event = true ∧ s.decEnabled = true)) } := by
  simp [latch_eq]

/-- The event word of PIN.INC carries the level in its last bit (R57, R61). -/
theorem encode_pinInc (lvl : Byte) : encode (.pinInc lvl) = 0x4100#16 ||| lvl.setWidth 16 :=
  BitVec.append_def 0x41#8 lvl

/-- The event word of PIN.DEC carries the level in its last bit (R57, R61). -/
theorem encode_pinDec (lvl : Byte) : encode (.pinDec lvl) = 0x4200#16 ||| lvl.setWidth 16 :=
  BitVec.append_def 0x42#8 lvl

section
variable {lvl : Byte} {s : State} (hl : isLevel lvl = true) (hs : s.inRange = true)
include hl hs

/-- PIN.INC is always enabled: on a level it drives the line and offers its source the edge. -/
theorem exec_pinInc : exec (.pinInc lvl) s =
    .next { s.latch .inc (qualifyingEdge s.incPin (lvl == 1#8)) with incPin := lvl == 1#8 } :=
  exec_of_enabled (by simp) hl hs (by simp) rfl

/-- PIN.DEC is always enabled: on a level it drives the line and offers its source the edge. -/
theorem exec_pinDec : exec (.pinDec lvl) s =
    .next { s.latch .dec (qualifyingEdge s.decPin (lvl == 1#8)) with decPin := lvl == 1#8 } :=
  exec_of_enabled (by simp) hl hs (by simp) rfl

end

section
variable {s : State} (hs : s.inRange = true)
include hs

theorem exec_pinInc_release : exec (.pinInc 1#8) s = .next { s with incPin := true } := by
  rw [exec_pinInc rfl hs, beq_self_eq_true, qualifyingEdge_to_one, latch_of_no_event]

theorem exec_pinInc_press : exec (.pinInc 0#8) s = .next { s with
    incPin := false
    pendInc := decide (s.pendInc = true ∨ (s.incPin = true ∧ s.incEnabled = true)) } := by
  have hlevel : (0#8 == 1#8) = false := rfl
  rw [exec_pinInc rfl hs, hlevel, qualifyingEdge_to_zero, latch_inc_eq]

theorem exec_pinDec_release : exec (.pinDec 1#8) s = .next { s with decPin := true } := by
  rw [exec_pinDec rfl hs, beq_self_eq_true, qualifyingEdge_to_one, latch_of_no_event]

theorem exec_pinDec_press : exec (.pinDec 0#8) s = .next { s with
    decPin := false
    pendDec := decide (s.pendDec = true ∨ (s.decPin = true ∧ s.decEnabled = true)) } := by
  have hlevel : (0#8 == 1#8) = false := rfl
  rw [exec_pinDec rfl hs, hlevel, qualifyingEdge_to_zero, latch_dec_eq]

end

/-- Settles O25: driving a line to 1 offers no event, driving it to 0 offers its old level as one. -/
theorem pinEdgesAreLatched : Obligations.PinEdgesAreLatched := by
  refine ⟨fun lvl hl => ⟨?_, ?_⟩, fun s hs => ?_⟩
  · exact decode_eq_some_iff.2 ⟨isLevel_of_toNat_le hl, encode_pinInc lvl⟩
  · exact decode_eq_some_iff.2 ⟨isLevel_of_toNat_le hl, encode_pinDec lvl⟩
  · exact ⟨exec_pinInc_release hs, exec_pinInc_press hs, exec_pinDec_release hs, exec_pinDec_press hs⟩

/-! ### A handler by its source (R144) -/

theorem agentClass_handlerOf (x : Source) : agentClass (handlerOf x) = .isr x := by cases x <;> rfl

theorem wellFormed_handlerOf (x : Source) : (handlerOf x).wellFormed = true := by cases x <;> rfl

theorem enabledIn_handlerOf (x : Source) (s : State) : enabledIn (handlerOf x) s = s.pending x := by
  rw [enabledIn, agentClass_handlerOf]

section
variable {x : Source} {s : State} (hs : s.inRange = true)
include hs

theorem exec_handlerOf_of_pending (hpend : s.pending x = true) :
    exec (handlerOf x) s = .next (effect (handlerOf x) s) := by
  have hrst : handlerOf x ≠ .rst := by cases x <;> simp [handlerOf]
  have hwr : handlerOf x ≠ .mAnaWr := by cases x <;> simp [handlerOf]
  exact exec_of_enabled hrst (wellFormed_handlerOf x) hs (fun h => absurd h hwr) (enabledIn_handlerOf x s ▸ hpend)

theorem exec_handlerOf_of_not_pending (hpend : s.pending x = false) :
    exec (handlerOf x) s = .refused (.handlerNotPending x) :=
  exec_of_disabled hs (enabledIn_handlerOf x s ▸ hpend) (by rw [agentClass_handlerOf]; rfl)

end

/-! ### ISR.INC and ISR.DEC -/

/-- The handler writes its own flag, its counter and the three registers of a scan step; no mode enters (R98, R101). -/
theorem effect_isrInc (s : State) : effect .isrInc s = { s.scanStep with
    pendInc := false
    increaseCounter := satInc s.increaseCounter } := rfl

/-- As ISR.INC, with the decrease button's flag and counter (R99, R101). -/
theorem effect_isrDec (s : State) : effect .isrDec s = { s.scanStep with
    pendDec := false
    decreaseCounter := satDec s.decreaseCounter } := rfl

/-- Settles O26: the handler's effect is a scan step with the flag cleared and the saturating increment. -/
theorem isrIncSaturatesAndScans : Obligations.IsrIncSaturatesAndScans := by
  refine ⟨rfl, fun s hs => ⟨fun hpend => ?_, exec_handlerOf_of_not_pending (x := .inc) hs⟩⟩
  have hscan : scanned s (effect .isrInc s) := effect_scanned (by simp) hs
  exact ⟨_, exec_handlerOf_of_pending (x := .inc) hs hpend, rfl, satInc_toNat _, hscan, effect_isrInc s⟩

/-- Over the integers too, the saturating decrement stops at 0 (R8, R99). -/
theorem satDec_toInt (n : Byte) : ((satDec n).toNat : Int) = max ((n.toNat : Int) - 1) 0 := by
  rw [satDec_toNat]
  omega

/-- Settles O27: the handler's effect is a scan step with the flag cleared and the saturating decrement. -/
theorem isrDecSaturatesAndScans : Obligations.IsrDecSaturatesAndScans := by
  refine ⟨rfl, fun s hs => ⟨fun hpend => ?_, exec_handlerOf_of_not_pending (x := .dec) hs⟩⟩
  have hscan : scanned s (effect .isrDec s) := effect_scanned (by simp) hs
  exact ⟨_, exec_handlerOf_of_pending (x := .dec) hs hpend, rfl, satDec_toInt _, hscan, effect_isrDec s⟩

/-! ### Any number of runs (R102) -/

/-- One run of the handler of x with its flag set before it. -/
def serveOnce (x : Source) (s : State) : State := effect (handlerOf x) (s.setPending x)

theorem setPending_inRange (s : State) (x : Source) : (s.setPending x).inRange = s.inRange := by
  simp [State.inRange]

theorem serveOnce_inRange (x : Source) {s : State} (hs : s.inRange = true) : (serveOnce x s).inRange = true :=
  effect_inRange _ ((setPending_inRange s x).trans hs)

/-- With its flag set a handler is never refused, so m runs are m iterations of one function. -/
theorem serveTimes_eq (x : Source) (m : Nat) {s : State} (hs : s.inRange = true) :
    serveTimes x m s = some ((serveOnce x)^[m] s) := by
  induction m generalizing s with
  | zero => rfl
  | succ m ih =>
    have hrun : exec (handlerOf x) (s.setPending x) = .next (serveOnce x s) :=
      exec_handlerOf_of_pending ((setPending_inRange s x).trans hs) (State.pending_setPending_self s x)
    rw [serveTimes, hrun, Function.iterate_succ_apply]
    exact ih (serveOnce_inRange x hs)

section
variable {α : Type} {reg : State → α} {x : Source}

/-- A register that each run maps by f is mapped by f once per run. -/
theorem reg_iterate_serveOnce {f : α → α} (h : ∀ s, reg (serveOnce x s) = f (reg s)) (m : Nat) (s : State) :
    reg ((serveOnce x)^[m] s) = f^[m] (reg s) :=
  Function.Semiconj.iterate_right h m s

theorem reg_iterate_serveOnce_of_kept (h : ∀ s, reg (serveOnce x s) = reg s) (m : Nat) (s : State) :
    reg ((serveOnce x)^[m] s) = reg s :=
  (reg_iterate_serveOnce (f := id) h m s).trans (congrFun (Function.iterate_id m) _)

end

/-! #### What one run does to the registers of the statement -/

theorem serveOnce_inc_increaseCounter (s : State) :
    (serveOnce .inc s).increaseCounter = satInc s.increaseCounter := rfl

theorem serveOnce_inc_decreaseCounter (s : State) : (serveOnce .inc s).decreaseCounter = s.decreaseCounter := rfl

theorem serveOnce_dec_decreaseCounter (s : State) :
    (serveOnce .dec s).decreaseCounter = satDec s.decreaseCounter := rfl

theorem serveOnce_dec_increaseCounter (s : State) : (serveOnce .dec s).increaseCounter = s.increaseCounter := rfl

/-- Every handler but ISR.ADC makes a scan step (R91, R98, R99, R106). -/
theorem serveOnce_scanIndex {x : Source} (hx : x ≠ .adc) (s : State) :
    (serveOnce x s).scanIndex = nextPosition s.scanIndex := by
  cases x
  case adc => exact absurd rfl hx
  all_goals rfl

/-! #### The laws, any number of times -/

theorem satInc_iterate_toNat (m : Nat) {n : Byte} (hn : n.toNat ≤ 159) :
    (satInc^[m] n).toNat = min (n.toNat + m) 159 := by
  induction m with
  | zero => exact (min_eq_left hn).symm
  | succ m ih =>
    rw [Function.iterate_succ_apply', satInc_toNat, ih]
    omega

theorem satDec_iterate_toInt (m : Nat) (n : Byte) : ((satDec^[m] n).toNat : Int) = max ((n.toNat : Int) - m) 0 := by
  induction m with
  | zero => simp
  | succ m ih =>
    rw [Function.iterate_succ_apply', satDec_toInt, ih]
    omega

theorem nextPosition_iterate_toNat (m : Nat) {i : Byte} (hi : i.toNat ≤ 3) :
    (nextPosition^[m] i).toNat = (i.toNat + m) % 4 := by
  induction m with
  | zero => exact (Nat.mod_eq_of_lt (Nat.lt_succ_of_le hi)).symm
  | succ m ih => rw [Function.iterate_succ_apply', nextPosition_toNat, ih, Nat.mod_add_mod, Nat.add_assoc]

theorem scanIndex_iterate_serveOnce {x : Source} (hx : x ≠ .adc) (m : Nat) {s : State} (hs : s.inRange = true) :
    ((serveOnce x)^[m] s).scanIndex.toNat = (s.scanIndex.toNat + m) % 4 := by
  obtain ⟨-, -, -, -, -, -, -, -, -, hscan, -⟩ := (inRange_iff s).1 hs
  rw [reg_iterate_serveOnce (reg := State.scanIndex) (serveOnce_scanIndex hx)]
  exact nextPosition_iterate_toNat m hscan

/-- Settles O28: each run saturates its own counter, keeps the other one and advances the scan, so m runs do so m times. -/
theorem saturationOverManyRuns : Obligations.SaturationOverManyRuns := by
  intro m s hs
  obtain ⟨-, hinc, -⟩ := (inRange_iff s).1 hs
  constructor
  · refine ⟨_, serveTimes_eq .inc m hs, ?_, ?_, scanIndex_iterate_serveOnce (by simp) m hs⟩
    · rw [reg_iterate_serveOnce serveOnce_inc_increaseCounter]
      exact satInc_iterate_toNat m hinc
    · exact reg_iterate_serveOnce_of_kept serveOnce_inc_decreaseCounter m s
  · refine ⟨_, serveTimes_eq .dec m hs, ?_, ?_, scanIndex_iterate_serveOnce (by simp) m hs⟩
    · rw [reg_iterate_serveOnce serveOnce_dec_decreaseCounter]
      exact satDec_iterate_toInt m s.decreaseCounter
    · exact reg_iterate_serveOnce_of_kept serveOnce_dec_increaseCounter m s

end Sys2Proof.Machine

/-! ## The analog sampler (R104 to R109) -/

namespace Sys2Proof.Machine

/-! ### RESCALE (R107, R109) -/

/-- The default reading is s * 999 / 255 to the nearest integer; it fits ten bits, so nothing is cut off (R107). -/
theorem rescale_nearest_toNat (a : Byte) : (rescale .nearest a).toNat = (1998 * a.toNat + 255) / 510 := by
  have := a.isLt
  simp only [rescale, rescaleNearest, BitVec.toNat_ofNat]
  omega

/-- The running maximum a table's reading folds up is a least upper bound. -/
theorem foldl_max_toNat_le_iff {values : List (BitVec 10)} {m b : Nat} :
    values.foldl (fun m v => max m v.toNat) m ≤ b ↔ m ≤ b ∧ ∀ v ∈ values, v.toNat ≤ b := by
  induction values generalizing m with
  | nil => simp
  | cons v vs ih => rw [List.foldl_cons, ih, max_le_iff, List.forall_mem_cons, and_assoc]

/-- The entries a table's reading at sample n looks at are those at the samples 1 to n. -/
theorem mem_take_drop_one_iff {values : List (BitVec 10)} {n : Nat} {v : BitVec 10} :
    v ∈ (values.drop 1).take n ↔ ∃ i < n, values[i + 1]? = some v := by
  simp [List.mem_iff_getElem?, List.getElem?_take]

/-- A table's reading at a is the greatest of its entries at the samples 1 to a, held at 999 (R109): what bounds it. -/
theorem rescale_table_le_iff {values : List (BitVec 10)} {a : Byte} {b : Nat} :
    (rescale (.table values) a).toNat ≤ b ↔
      999 ≤ b ∨ ∀ v, ∀ i < a.toNat, values[i + 1]? = some v → v.toNat ≤ b := by
  have hfit (n : Nat) : min 999 n < 2 ^ 10 := by omega
  rw [rescale, rescaleTable, BitVec.toNat_ofNat, Nat.mod_eq_of_lt (hfit _), min_le_iff, foldl_max_toNat_le_iff]
  simp only [mem_take_drop_one_iff, Nat.zero_le, true_and, forall_exists_index, and_imp]

theorem rescale_mono (f : RescaleFn) {a b : Byte} (hab : a.toNat ≤ b.toNat) :
    (rescale f a).toNat ≤ (rescale f b).toNat := by
  cases f with
  | nearest =>
    rw [rescale_nearest_toNat, rescale_nearest_toNat]
    omega
  | table values =>
    have hb := rescale_table_le_iff.1 (le_refl (rescale (.table values) b).toNat)
    exact rescale_table_le_iff.2 (hb.imp_right fun h v i hi => h v i (hi.trans_le hab))

theorem rescale_zero (f : RescaleFn) : rescale f 0#8 = 0#10 := by
  cases f <;> rfl

/-- The list of a function's values at the samples 0 to 255. -/
def sampleTable (g : Byte → BitVec 10) : List (BitVec 10) := (List.range 256).map fun n => g (BitVec.ofNat 8 n)

theorem sampleTable_getElem? (g : Byte → BitVec 10) (a : Byte) : (sampleTable g)[a.toNat]? = some (g a) := by
  simp [sampleTable, List.getElem?_range a.isLt]

/-- The list of an admissible function reads as the function itself: at every sample the entry there is the greatest so
far (R109). -/
theorem rescale_sampleTable {g : Byte → BitVec 10} (hzero : g 0#8 = 0#10) (hle : ∀ a, (g a).toNat ≤ 999)
    (hmono : ∀ a b : Byte, a.toNat ≤ b.toNat → (g a).toNat ≤ (g b).toNat) (a : Byte) :
    rescale (.table (sampleTable g)) a = g a := by
  refine BitVec.eq_of_toNat_eq (le_antisymm ?upper ?lower)
  case upper =>
    refine rescale_table_le_iff.2 (.inr fun v i hi hv => ?_)
    have hsample : (BitVec.ofNat 8 (i + 1)).toNat = i + 1 := Nat.mod_eq_of_lt (by have := a.isLt; omega)
    have hentry := sampleTable_getElem? g (BitVec.ofNat 8 (i + 1))
    rw [hsample, hv, Option.some.injEq] at hentry
    rw [hentry]
    exact hmono _ _ (by omega)
  case lower =>
    rcases rescale_table_le_iff.1 (le_refl (rescale (.table (sampleTable g)) a).toNat) with h | h
    · exact (hle a).trans h
    · by_cases ha : a = 0#8
      · simp [ha, hzero]
      · have hpos : a.toNat - 1 + 1 = a.toNat := by bv_omega
        exact h (g a) (a.toNat - 1) (by omega) (hpos ▸ sampleTable_getElem? g a)

/-- Settles O33: the default is a quotient of numbers, a table reads as a least upper bound over a prefix of its entries,
and an admissible function is the reading of its own values. -/
theorem rescaleIsAdmissible : Obligations.RescaleIsAdmissible := by
  refine ⟨rescale_le, fun f a b => rescale_mono f, rescale_zero, rfl, fun a b hab => ?_, fun a => ?_,
    fun g hzero hle hmono => ⟨.table (sampleTable g), rescale_sampleTable hzero hle hmono⟩⟩
  · rw [rescale_nearest_toNat, rescale_nearest_toNat]
    omega
  · rw [rescale_nearest_toNat]
    omega

/-! ### ADC.ARM and ADC.EOC -/

/-- ADC.ARM is always enabled. -/
theorem exec_adcArm {s : State} (hs : s.inRange = true) : exec .adcArm s = .next s.armAdc :=
  exec_of_enabled (by simp) rfl hs (by simp) rfl

theorem armAdc_of_enabled {s : State} (hen : s.adcEnabled = true) : s.armAdc = s := by
  obtain ⟨⟩ := s
  subst hen
  rfl

/-- Settles O30: ADC.ARM writes the enable, and where it stands nothing is left to write. -/
theorem adcArmEnablesTheSampler : Obligations.AdcArmEnablesTheSampler := by
  refine ⟨rfl, fun s hs => ⟨exec_adcArm hs, fun hen => ?_⟩⟩
  rw [exec_adcArm hs, armAdc_of_enabled hen]

/-- The event word of ADC.EOC carries the sample in its last byte (R59, R61). -/
theorem encode_adcEoc (sample : Byte) : encode (.adcEoc sample) = 0x5100#16 ||| sample.setWidth 16 :=
  BitVec.append_def 0x51#8 sample

/-- ADC.EOC is always enabled: it offers the sampler a completed conversion (R105). -/
theorem exec_adcEoc (sample : Byte) {s : State} (hs : s.inRange = true) :
    exec (.adcEoc sample) s = .next (s.complete sample) :=
  exec_of_enabled (by simp) rfl hs (by simp) rfl

theorem complete_of_enabled {s : State} (sample : Byte) (hen : s.adcEnabled = true) :
    s.complete sample = { s with adcData := sample, pendAdc := true } :=
  ((complete_cases s sample).resolve_right (by simp [hen])).2

theorem complete_of_disabled {s : State} (sample : Byte) (hdis : s.adcEnabled = false) : s.complete sample = s :=
  ((complete_cases s sample).resolve_left (by simp [hdis])).2

/-- Settles O31: a completed conversion writes the sampler's data and flag where the sampler is enabled. -/
theorem adcEocLatchesTheSample : Obligations.AdcEocLatchesTheSample := by
  refine ⟨fun sample => decode_eq_some_iff.2 ⟨rfl, encode_adcEoc sample⟩,
    fun sample s hs => ⟨fun hen => ?_, fun hdis => ?_⟩⟩
  · rw [exec_adcEoc sample hs, complete_of_enabled sample hen]
  · rw [exec_adcEoc sample hs, complete_of_disabled sample hdis]

/-! ### ISR.ADC -/

/-- The handler writes its own flag and AnalogReading; no display register and no mode enters (R106, R110). -/
theorem effect_isrAdc (s : State) : effect .isrAdc s = { s with
    pendAdc := false
    analogReading := rescale s.cfg.rescale s.adcData } := rfl

/-- Settles O32: the handler's effect is the overwriting, and the default readings are computed. -/
theorem isrAdcOverwritesTheReading : Obligations.IsrAdcOverwritesTheReading := by
  refine ⟨rfl, fun s hs => ⟨fun hpend => ?_, exec_handlerOf_of_not_pending (x := .adc) hs, fun hnearest => ?_⟩⟩
  · rw [← effect_isrAdc]
    exact exec_handlerOf_of_pending (x := .adc) hs hpend
  · rw [hnearest]
    exact ⟨rfl, rfl, rfl⟩

end Sys2Proof.Machine

/-! ## The mode controller (R113 to R135) -/

namespace Sys2Proof.Machine

/-! ### One micro-step in its turn (R60) -/

section
variable {i : Instr} {n : BitVec 4} (hclass : agentClass i = .micro n)
include hclass

theorem ne_rst_of_micro : i ≠ .rst := by
  rintro rfl
  cases hclass

/-- A micro-step has no operand (R57). -/
theorem wellFormed_of_micro : i.wellFormed = true := by
  cases i
  case dbPoll | muxDig | pinInc | pinDec | pinMode => cases hclass
  all_goals rfl

/-- A micro-step whose index MainPC holds answers its effect. -/
theorem exec_of_micro {s : State} (hs : s.inRange = true) (hpc : s.mainPC = n)
    (hti : i = .mAnaWr → s.ti.toNat ≤ 3) : exec i s = .next (effect i s) :=
  exec_of_enabled (ne_rst_of_micro hclass) (wellFormed_of_micro hclass) hs hti ((enabledIn_micro hclass).2 hpc)

/-- Micro-steps set no pending flag and clear none (R38, R144). -/
theorem effect_pending_of_micro (s : State) (x : Source) : (effect i s).pending x = s.pending x := by
  have own := owners i
  cases x
  case tick => exact own.pendTick.resolve_right (by rintro (rfl | rfl) <;> cases hclass) s
  case inc => exact own.pendInc.resolve_right (by rintro (⟨_, rfl⟩ | rfl) <;> cases hclass) s
  case dec => exact own.pendDec.resolve_right (by rintro (⟨_, rfl⟩ | rfl) <;> cases hclass) s
  case adc => exact own.pendAdc.resolve_right (by rintro (⟨_, rfl⟩ | rfl) <;> cases hclass) s

/-- Micro-steps neither start nor stop the timer (R38). -/
theorem effect_timerRunning_of_micro (s : State) : (effect i s).timerRunning = s.timerRunning :=
  (owners i).timerRunning.resolve_right (by rintro (rfl | rfl) <;> cases hclass) s

/-- Micro-steps read the mode button's line and do not drive it (R42, R114). -/
theorem effect_modePin_of_micro (s : State) : (effect i s).modePin = s.modePin :=
  (owners i).modePin.resolve_right (by rintro ⟨_, rfl⟩; cases hclass) s

end

/-! ### The mode button (R114 to R116) -/

/-- The event word of PIN.MODE carries the level in its last bit (R57, R61). -/
theorem encode_pinMode (lvl : Byte) : encode (.pinMode lvl) = 0x6000#16 ||| lvl.setWidth 16 :=
  BitVec.append_def 0x60#8 lvl

/-- PIN.MODE is always enabled: on a level it drives the line. -/
theorem exec_pinMode {lvl : Byte} {s : State} (hl : isLevel lvl = true) (hs : s.inRange = true) :
    exec (.pinMode lvl) s = .next { s with modePin := lvl == 1#8 } :=
  exec_of_enabled (by simp) hl hs (by simp) rfl

/-- Settles O34: PIN.MODE at each of the two levels. -/
theorem pinModeDrivesTheLine : Obligations.PinModeDrivesTheLine := by
  refine ⟨fun lvl hl => ?_, fun s hs => ⟨exec_pinMode rfl hs, exec_pinMode rfl hs⟩⟩
  exact decode_eq_some_iff.2 ⟨isLevel_of_toNat_le hl, encode_pinMode lvl⟩

theorem effect_mPoll (s : State) : effect .mPoll s = { s with
    btnPrev := s.btnCur
    btnCur := decide (s.modePin = false)
    te := decide (s.btnCur = false ∧ s.modePin = false)
    mainPC := 1#4 } := by
  simp [effect, State.debounce, State.goto, logicalLevel, risingEdge]

theorem effect_mPress (s : State) : effect .mPress s = { s with
    pressCount := if s.te then nextPress s.pressCount else s.pressCount
    mainPC := 2#4 } := by
  rw [effect, countPress_eq]
  rfl

/-- Settles O35: the poll's two samples, and the counter's wrap modulo 4. -/
theorem pollAndPressCountTheEdge : Obligations.PollAndPressCountTheEdge := by
  refine ⟨rfl, rfl, fun s hs => ⟨fun hpc => ?poll, fun hpc => ?press⟩⟩
  case poll => rw [← effect_mPoll, exec_of_micro rfl hs hpc (by simp)]
  case press =>
    refine ⟨_, exec_of_micro rfl hs hpc (by simp), ?_, by rw [effect_mPress]⟩
    rw [effect_mPress]
    exact (apply_ite BitVec.toNat _ _ _).trans (by rw [nextPress_toNat])

/-! ### M.SELECT (R117) -/

theorem effect_mSelect (s : State) : effect .mSelect s = { s with
    displayValue := s.valueSource
    mainPC := afterSelect s.mode } := rfl

/-- Widening a counter to the ten bits of DisplayValue keeps its value. -/
theorem setWidth_ten_toNat (n : Byte) : (n.setWidth 10).toNat = n.toNat := BitVec.toNat_setWidth_of_le (by decide)

/-- Settles O36: the source and the successor, mode by mode. -/
theorem selectCopiesTheActiveSource : Obligations.SelectCopiesTheActiveSource := by
  refine ⟨rfl, fun s hs hpc => ⟨_, exec_of_micro rfl hs hpc (by simp), rfl, ?_, ?_, ?_, ?_⟩⟩
  all_goals
    intro hmode
    simp only [effect_mSelect, State.valueSource, hmode, afterSelect, setWidth_ten_toNat, and_self]

/-! ### The Auto substep (R118 to R120) -/

theorem effect_mAutoCmp (s : State) : effect .mAutoCmp s = { s with
    tc := thresholdReached s.cfg.tickCmp s.tickCount
    mainPC := 4#4 } := rfl

theorem effect_mAutoClr (s : State) : effect .mAutoClr s = { s with
    tickCount := if s.tc then 0 else s.tickCount
    mainPC := 5#4 } := rfl

theorem effect_mAutoAdv (s : State) : effect .mAutoAdv s = { s with
    autoCounter := if s.tc then nextAuto s.autoCounter else s.autoCounter
    mainPC := 11#4 } := rfl

theorem thresholdReached_eq (n : Nat) : thresholdReached .eq n = decide (n = 5) := beq_eq_decide n 5

theorem thresholdReached_ge (n : Nat) : thresholdReached .ge n = decide (5 ≤ n) := rfl

/-- Settles O37: the compare under either reading of TICK_CMP, and what the two micro-steps after it do with t.c. -/
theorem autoSubstepAdvancesOnTheThreshold : Obligations.AutoSubstepAdvancesOnTheThreshold := by
  refine ⟨rfl, rfl, rfl, fun s hs => ⟨fun hpc hcmp => ?eq, fun hpc hcmp => ?ge, fun hpc => ?clear, fun hpc => ?advance⟩⟩
  case eq => rw [exec_of_micro rfl hs hpc (by simp), effect_mAutoCmp, hcmp, thresholdReached_eq]
  case ge => rw [exec_of_micro rfl hs hpc (by simp), effect_mAutoCmp, hcmp, thresholdReached_ge]
  case clear => exact exec_of_micro rfl hs hpc (by simp)
  case advance =>
    refine ⟨_, exec_of_micro rfl hs hpc (by simp), ?_, rfl⟩
    rw [effect_mAutoAdv]
    exact (apply_ite BitVec.toNat _ _ _).trans (by rw [nextAuto_toNat])

/-! ### The Analog substep, but for its last micro-step (R121 to R124) -/

/-- Settles O38: four effects, of which M.ANA.WR's alone shows a position, the one in t.i. -/
theorem analogSubstepReadsLightsAndRereads : Obligations.AnalogSubstepReadsLightsAndRereads := by
  refine ⟨rfl, rfl, rfl, rfl, fun s hs => ⟨fun hpc => ?arm, fun hpc => ?read, fun hpc hti => ?light, fun hpc => ?reread⟩⟩
  case arm => exact exec_of_micro rfl hs hpc (by simp)
  case read => exact exec_of_micro rfl hs hpc (by simp)
  case light => exact ⟨_, exec_of_micro rfl hs hpc fun _ => hti, shows_light s hti, rfl⟩
  case reread => exact exec_of_micro rfl hs hpc (by simp)

/-! ### M.TRANS (R126 to R130) -/

/-- Settles O41: the rows of the transition table, and the state no row applies to. -/
theorem transitionTable : Obligations.TransitionTable := by
  refine ⟨rfl, fun s hs hpc => ?_⟩
  rw [exec_of_micro rfl hs hpc (by simp), effect]
  congr 1
  rcases transition_cases s with
    ⟨hmode, hcount, h⟩ | ⟨hmode, hcount, h⟩ | ⟨hmode, hcount, h⟩ | ⟨hmode, hcount, h⟩ | ⟨hcount, h⟩ <;> rw [h]
  pick_goal 5
  · rw [if_neg, if_neg, if_neg, if_neg]
    · rfl
    all_goals
      rintro ⟨hmode, hmet⟩
      exact hcount (by rw [hmet, hmode]; rfl)
  all_goals simp [hmode, hcount, State.goto]

/-! ### The decomposition (R131 to R134) -/

/-- Settles O42: each micro-step writes one digit of the decomposition; a value in range has no thousands. -/
theorem digitMicroStepsDecompose : Obligations.DigitMicroStepsDecompose := by
  refine ⟨rfl, rfl, rfl, rfl, fun s hs => ?_⟩
  obtain ⟨-, -, -, -, hvalue, -⟩ := (inRange_iff s).1 hs
  obtain ⟨h0, h1, h2, h3⟩ := digit_toNat s.displayValue
  have hzero : digit 0#2 s.displayValue = 0#4 := BitVec.eq_of_toNat_eq (by simp; omega)
  exact ⟨fun hpc => ⟨_, exec_of_micro rfl hs hpc (by simp), h0, hzero, rfl⟩,
    fun hpc => ⟨_, exec_of_micro rfl hs hpc (by simp), h1, rfl⟩,
    fun hpc => ⟨_, exec_of_micro rfl hs hpc (by simp), h2, rfl⟩,
    fun hpc => ⟨_, exec_of_micro rfl hs hpc (by simp), h3, rfl⟩⟩

end Sys2Proof.Machine

/-! ## Sequences of the mode controller's operations (R118, R125) -/

namespace Sys2Proof.Machine

/-! ### Sequences by their effects -/

/-- All that an operation but RST asks for to answer its effect in a state in range (R56, R57, R123). -/
def Ready (i : Instr) (s : State) : Prop :=
  i ≠ .rst ∧ i.wellFormed = true ∧ enabledIn i s = true ∧ (i = .mAnaWr → s.ti.toNat ≤ 3)

theorem exec_of_ready {i : Instr} {s : State} (hs : s.inRange = true) (h : Ready i s) :
    exec i s = .next (effect i s) := by
  obtain ⟨hrst, hwf, hen, hti⟩ := h
  exact exec_of_enabled hrst hwf hs hti hen

theorem Ready.micro {i : Instr} {n : BitVec 4} {s : State} (hclass : agentClass i = .micro n) (hpc : s.mainPC = n)
    (hne : i ≠ .mAnaWr := by simp) : Ready i s :=
  ⟨ne_rst_of_micro hclass, wellFormed_of_micro hclass, (enabledIn_micro hclass).2 hpc, fun h => absurd h hne⟩

theorem Ready.mAnaWr {s : State} (hpc : s.mainPC = 8#4) (hti : s.ti.toNat ≤ 3) : Ready .mAnaWr s :=
  ⟨by simp, rfl, (enabledIn_micro rfl).2 hpc, fun _ => hti⟩

theorem Ready.handler {x : Source} {s : State} (hpend : s.pending x = true) : Ready (handlerOf x) s := by
  refine ⟨?_, wellFormed_handlerOf x, enabledIn_handlerOf x s ▸ hpend, ?_⟩ <;> cases x <;> simp [handlerOf]

/-- The effects of a sequence, one after the other. -/
def effects (is : List Instr) (s : State) : State := is.foldl (fun s i => effect i s) s

/-- Each operation of the sequence is ready in the state that the effects before it leave. -/
def allReady : List Instr → State → Prop
  | [], _ => True
  | i :: is, s => Ready i s ∧ allReady is (effect i s)

/-- A sequence that stays ready runs to the end, as every effect keeps the ranges. -/
theorem execAll_of_allReady {is : List Instr} {s : State} (hs : s.inRange = true) (h : allReady is s) :
    execAll is s = some (effects is s) := by
  induction is generalizing s with
  | nil => rfl
  | cons i is ih =>
    obtain ⟨hi, his⟩ := h
    rw [execAll_cons_next (exec_of_ready hs hi), ih (effect_inRange i hs) his]
    rfl

theorem effects_inRange (is : List Instr) {s : State} (hs : s.inRange = true) : (effects is s).inRange = true := by
  induction is generalizing s with
  | nil => exact hs
  | cons i is ih => exact ih (effect_inRange i hs)

/-- No micro-step sets or clears a flag, however many of them run. -/
theorem effects_pending_of_micros {is : List Instr} (h : ∀ i ∈ is, ∃ n, agentClass i = .micro n) (s : State)
    (x : Source) : (effects is s).pending x = s.pending x := by
  induction is generalizing s with
  | nil => rfl
  | cons i is ih =>
    obtain ⟨⟨n, hi⟩, his⟩ := List.forall_mem_cons.1 h
    exact (ih his (effect i s)).trans (effect_pending_of_micro hi s x)

/-! ### The split scan step (R122 to R125) -/

theorem scanIndex_le_of_inRange {s : State} (hs : s.inRange = true) : s.scanIndex.toNat ≤ 3 := by
  obtain ⟨-, -, -, -, -, -, -, -, -, hscan, -⟩ := (inRange_iff s).1 hs
  exact hscan

theorem scanStep_eq (s : State) : s.scanStep = { s with
    displayPort := (s.light s.scanIndex).displayPort
    portTrace := s.portTrace ++ [(s.light s.scanIndex).displayPort]
    scanIndex := nextPosition s.scanIndex } := rfl

@[simp] theorem effect_mAnaRd (s : State) : effect .mAnaRd s = { s with ti := s.scanIndex, mainPC := 8#4 } := rfl

@[simp] theorem effect_mAnaWr (s : State) : effect .mAnaWr s = { s with
    displayPort := (s.light s.ti).displayPort
    portTrace := s.portTrace ++ [(s.light s.ti).displayPort]
    mainPC := 9#4 } := rfl

@[simp] theorem effect_mAnaRd2 (s : State) : effect .mAnaRd2 s = { s with tj := s.scanIndex, mainPC := 10#4 } := rfl

@[simp] theorem effect_mAnaInc (s : State) : effect .mAnaInc s = { s with
    scanIndex := nextPosition s.tj
    mainPC := 11#4 } := rfl

/-- What a handler that scans writes: its flag, the scan step's three registers, and its own counter (R91, R98, R99). -/
@[simp] theorem effect_scanHandler {x : Source} (hx : x ≠ .adc) (s : State) : effect (handlerOf x) s =
    { s.clearPending x with
      displayPort := (s.light s.scanIndex).displayPort
      portTrace := s.portTrace ++ [(s.light s.scanIndex).displayPort]
      scanIndex := nextPosition s.scanIndex
      tickCount := if x = .tick then nextTick s.cfg s.tickCount else s.tickCount
      increaseCounter := if x = .inc then satInc s.increaseCounter else s.increaseCounter
      decreaseCounter := if x = .dec then satDec s.decreaseCounter else s.decreaseCounter } := by
  cases x
  case adc => exact absurd rfl hx
  all_goals rfl

/-- Settles O40: t.i and t.j are both the ScanIndex that MUX.SCAN would read. -/
theorem splitScanRefinesMuxScan : Obligations.SplitScanRefinesMuxScan := by
  intro s hs hpc
  have hscan := scanIndex_le_of_inRange hs
  refine ⟨s.scanStep, guarded_inRange hs _, ?_⟩
  have hready : allReady [.mAnaRd, .mAnaWr, .mAnaRd2, .mAnaInc] s :=
    ⟨.micro rfl hpc, .mAnaWr rfl hscan, .micro rfl rfl, .micro rfl rfl, trivial⟩
  rw [execAll_of_allReady hs hready]
  simp [effects, scanStep_eq]

/-- The sequence runs from s, writes to the port the bytes that light positions p and q, in this order and with the digits
of s, and leaves ScanIndex at r. -/
def lightsTwo (is : List Instr) (s : State) (p q r : Byte) : Prop :=
  ∃ t, execAll is s = some t ∧ t.portTrace = s.portTrace ++ [(s.light p).displayPort, (s.light q).displayPort]
    ∧ t.scanIndex = r

theorem lightsTwo_of_effects {is : List Instr} {s : State} {p q r : Byte} (hs : s.inRange = true) (hready : allReady is s)
    (htrace : (effects is s).portTrace = s.portTrace ++ [(s.light p).displayPort] ++ [(s.light q).displayPort])
    (hindex : (effects is s).scanIndex = r) : lightsTwo is s p q r :=
  ⟨_, execAll_of_allReady hs hready, by rw [htrace, List.append_assoc]; rfl, hindex⟩

/-! #### One scanning handler at each of its five places -/

section
variable {x : Source} {s : State} (hx : x ≠ .adc) (hs : s.inRange = true) (hpc : s.mainPC = 7#4)
  (hpend : s.pending x = true)
include hx hs hpc hpend

/-- M.ANA.RD has read the position that the handler then lights and moves past. -/
theorem lightsTwo_handler_after_rd : lightsTwo [.mAnaRd, handlerOf x, .mAnaWr, .mAnaRd2, .mAnaInc] s
    s.scanIndex s.scanIndex (nextPosition (nextPosition s.scanIndex)) := by
  have hscan := scanIndex_le_of_inRange hs
  refine lightsTwo_of_effects hs ⟨.micro rfl hpc, .handler hpend, .mAnaWr (by simp [hx]) (by simpa [hx] using hscan),
    .micro rfl (by simp [hx]), .micro rfl (by simp [hx]), trivial⟩ ?_ ?_ <;> simp [effects, hx]

/-- The handler lights the position again, for ScanIndex has not moved yet. -/
theorem lightsTwo_handler_after_wr : lightsTwo [.mAnaRd, .mAnaWr, handlerOf x, .mAnaRd2, .mAnaInc] s
    s.scanIndex s.scanIndex (nextPosition (nextPosition s.scanIndex)) := by
  have hscan := scanIndex_le_of_inRange hs
  refine lightsTwo_of_effects hs ⟨.micro rfl hpc, .mAnaWr rfl hscan, .handler hpend, .micro rfl (by simp [hx]),
    .micro rfl (by simp [hx]), trivial⟩ ?_ ?_ <;> simp [effects, hx]

/-- M.ANA.INC overwrites the handler's advance with its own, from the t.j read before. -/
theorem lightsTwo_handler_after_rd2 : lightsTwo [.mAnaRd, .mAnaWr, .mAnaRd2, handlerOf x, .mAnaInc] s
    s.scanIndex s.scanIndex (nextPosition s.scanIndex) := by
  have hscan := scanIndex_le_of_inRange hs
  have hstill := effects_pending_of_micros (is := [.mAnaRd, .mAnaWr, .mAnaRd2]) (by simp [agentClass]) s x
  refine lightsTwo_of_effects hs ⟨.micro rfl hpc, .mAnaWr rfl hscan, .micro rfl rfl, .handler (hstill.trans hpend),
    .micro rfl (by simp [hx]), trivial⟩ ?_ ?_ <;> simp [effects, hx]

theorem lightsTwo_handler_before : lightsTwo [handlerOf x, .mAnaRd, .mAnaWr, .mAnaRd2, .mAnaInc] s
    s.scanIndex (nextPosition s.scanIndex) (nextPosition (nextPosition s.scanIndex)) := by
  have hnext := nextPosition_le s.scanIndex
  refine lightsTwo_of_effects hs ⟨.handler hpend, .micro rfl (by simp [hx, hpc]), .mAnaWr rfl (by simp [hx, hnext]),
    .micro rfl rfl, .micro rfl rfl, trivial⟩ ?_ ?_ <;> simp [effects, hx]

theorem lightsTwo_handler_after : lightsTwo [.mAnaRd, .mAnaWr, .mAnaRd2, .mAnaInc, handlerOf x] s
    s.scanIndex (nextPosition s.scanIndex) (nextPosition (nextPosition s.scanIndex)) := by
  have hscan := scanIndex_le_of_inRange hs
  have hstill := effects_pending_of_micros (is := [.mAnaRd, .mAnaWr, .mAnaRd2, .mAnaInc]) (by simp [agentClass]) s x
  refine lightsTwo_of_effects hs ⟨.micro rfl hpc, .mAnaWr rfl hscan, .micro rfl rfl, .micro rfl rfl,
    .handler (hstill.trans hpend), trivial⟩ ?_ ?_ <;> simp [effects, hx]

end

/-- Settles O39: M.ANA.INC on its own, and the five places read as positions on the display. -/
theorem handlerScanInsideTheSplitScan : Obligations.HandlerScanInsideTheSplitScan := by
  refine ⟨rfl, fun s hs hpc => ⟨_, exec_of_micro rfl hs hpc (by simp), nextPosition_toNat _, rfl⟩,
    fun x s hx hs hpc hpend => ?_⟩
  have hscan := scanIndex_le_of_inRange hs
  have hfirst : shows s s.scanIndex.toNat (s.light s.scanIndex).displayPort := shows_light s hscan
  have hsecond := shows_light s (nextPosition_le s.scanIndex)
  rw [nextPosition_toNat] at hsecond
  have htwo : (nextPosition (nextPosition s.scanIndex)).toNat = (s.scanIndex.toNat + 2) % 4 :=
    nextPosition_iterate_toNat 2 hscan
  refine ⟨fun is his => ?twice, ?lost, fun is his => ?inOrder⟩
  case twice =>
    have hlit : lightsTwo is s s.scanIndex s.scanIndex (nextPosition (nextPosition s.scanIndex)) := by
      simp only [List.mem_cons, List.not_mem_nil, or_false] at his
      rcases his with rfl | rfl
      exacts [lightsTwo_handler_after_rd hx hs hpc hpend, lightsTwo_handler_after_wr hx hs hpc hpend]
    obtain ⟨t, hrun, htrace, hindex⟩ := hlit
    exact ⟨t, _, hrun, hfirst, htrace, hindex ▸ htwo⟩
  case lost =>
    obtain ⟨t, hrun, htrace, hindex⟩ := lightsTwo_handler_after_rd2 hx hs hpc hpend
    exact ⟨t, _, hrun, hfirst, htrace, hindex ▸ nextPosition_toNat _⟩
  case inOrder =>
    have hlit : lightsTwo is s s.scanIndex (nextPosition s.scanIndex) (nextPosition (nextPosition s.scanIndex)) := by
      simp only [List.mem_cons, List.not_mem_nil, or_false] at his
      rcases his with rfl | rfl
      exacts [lightsTwo_handler_before hx hs hpc hpend, lightsTwo_handler_after hx hs hpc hpend]
    obtain ⟨t, hrun, htrace, hindex⟩ := hlit
    exact ⟨t, _, _, hrun, hfirst, hsecond, htrace, hindex ▸ htwo⟩

/-! ### Ticks and the Auto substep (R88, R91, R118 to R120) -/

/-- TickCount has at least three bits, so up to 7 it counts without wrapping (R20, R91). -/
theorem nextTick_of_lt {n : Nat} (cfg : Config) (h : n < 7) : nextTick cfg n = n + 1 :=
  Nat.mod_eq_of_lt (by have := eight_le_tickModulus cfg; omega)

theorem effect_tmrMatch_of_running {s : State} (hrun : s.timerRunning = true) :
    effect .tmrMatch s = { s with pendTick := true } :=
  latch_of_enabled (x := .tick) hrun

theorem Ready.tmrMatch (s : State) : Ready .tmrMatch s := ⟨by simp, rfl, rfl, by simp⟩

/-- One pending tick dispatched, and one more matched and dispatched after it: TickCount moves twice, and nothing the Auto
substep reads beside it moves at all. -/
theorem exists_execAll_two_ticks {s : State} (hs : s.inRange = true) (hrun : s.timerRunning = true)
    (hpend : s.pendTick = true) : ∃ t, execAll [.isrTick, .tmrMatch, .isrTick] s = some t ∧ t.inRange = true
      ∧ t.mainPC = s.mainPC ∧ t.cfg = s.cfg ∧ t.autoCounter = s.autoCounter
      ∧ t.tickCount = nextTick s.cfg (nextTick s.cfg s.tickCount) := by
  have hmatch : effect .tmrMatch (effect .isrTick s) = { effect .isrTick s with pendTick := true } :=
    effect_tmrMatch_of_running hrun
  have hready : allReady [.isrTick, .tmrMatch, .isrTick] s := by
    refine ⟨.handler (x := .tick) hpend, .tmrMatch _, .handler (x := .tick) ?_, trivial⟩
    rw [hmatch]
    rfl
  refine ⟨_, execAll_of_allReady hs hready, effects_inRange _ hs, ?_⟩
  simp only [effects, List.foldl_cons, List.foldl_nil, hmatch]
  simp [effect_isrTick, nextTick, tickW]

/-- The Auto substep as one update: cleared and advanced exactly when the compare saw the threshold. -/
theorem execAll_autoSubstep {s : State} {reached : Bool} (hs : s.inRange = true) (hpc : s.mainPC = 3#4)
    (hreached : thresholdReached s.cfg.tickCmp s.tickCount = reached) :
    execAll [.mAutoCmp, .mAutoClr, .mAutoAdv] s = some { s with
      tc := reached
      tickCount := if reached then 0 else s.tickCount
      autoCounter := if reached then nextAuto s.autoCounter else s.autoCounter
      mainPC := 11#4 } := by
  have hready : allReady [.mAutoCmp, .mAutoClr, .mAutoAdv] s := ⟨.micro rfl hpc, .micro rfl rfl, .micro rfl rfl, trivial⟩
  rw [execAll_of_allReady hs hready]
  simp only [effects, List.foldl_cons, List.foldl_nil, effect_mAutoCmp, effect_mAutoClr, effect_mAutoAdv, hreached]

/-- Settles O56: the compare reads 6, which is at least 5 and is not 5. -/
theorem twoTicksBetweenComparesPassTheThreshold : Obligations.TwoTicksBetweenComparesPassTheThreshold := by
  intro s hs hpc hcount hrun hpend
  obtain ⟨u, hticks, hrange, hupc, hcfg, hauto, hcounted⟩ := exists_execAll_two_ticks hs hrun hpend
  have hsix : u.tickCount = 6 := by
    rw [hcounted, hcount, nextTick_of_lt (n := 4) _ (by decide), nextTick_of_lt (n := 5) _ (by decide)]
  have hsplit : execAll [.isrTick, .tmrMatch, .isrTick, .mAutoCmp, .mAutoClr, .mAutoAdv] s
      = execAll [.mAutoCmp, .mAutoClr, .mAutoAdv] u := by
    rw [← Option.bind_some u (execAll _), ← hticks]
    exact execAll_append [.isrTick, .tmrMatch, .isrTick] _ s
  refine ⟨_, hsplit.trans (execAll_autoSubstep hrange (hupc.trans hpc) rfl), rfl, fun hcmp => ?eq, fun hcmp => ?ge⟩
  case eq =>
    have hmissed : thresholdReached s.cfg.tickCmp 6 = false := by rw [hcmp]; rfl
    simp [hcfg, hsix, hauto, hmissed]
  case ge =>
    have hmet : thresholdReached s.cfg.tickCmp 6 = true := by rw [hcmp]; rfl
    simp [hcfg, hsix, hauto, hmet, nextAuto_toNat]

end Sys2Proof.Machine

/-! ## The main loop on its own (R113, R135) -/

namespace Sys2Proof.Machine

/-! ### Steps with nothing scheduled -/

/-- With nothing scheduled the step is the micro-step MainPC names. -/
theorem step_of_micro {i : Instr} {s : State} (hschedule : s.schedule = []) (hclass : agentClass i = .micro s.mainPC) :
    step s = exec i s := by
  obtain ⟨i', hdecode, hclass'⟩ := exists_decode_micro s.mainPC
  obtain rfl : i' = i := micro_unique hclass' hclass
  exact step_of_fetch (fetch_empty hschedule) (by rw [microWord_eq_add, hdecode])

theorem effect_schedule (i : Instr) (s : State) : (effect i s).schedule = s.schedule := (owners i).schedule s

/-- A run of the main loop goes on from where its first micro-step leads. -/
theorem run_succ_of_next {k : Nat} {s t : State} (h : step s = .next t) :
    Host.Core.run Sys2Proof.core (k + 1) s = Host.Core.run Sys2Proof.core k t := by
  simp only [Host.Core.run, Sys2Proof.core, h]

/-- Micro-steps that are ready one after the other are what the main loop runs on its own. -/
theorem run_of_allReady {is : List Instr} {s : State} (hs : s.inRange = true) (hschedule : s.schedule = [])
    (hmicro : ∀ i ∈ is, ∃ n, agentClass i = .micro n) (h : allReady is s) :
    Host.Core.run Sys2Proof.core is.length s = .next (effects is s) := by
  induction is generalizing s with
  | nil => rfl
  | cons i is ih =>
    obtain ⟨⟨n, hi⟩, his⟩ := List.forall_mem_cons.1 hmicro
    obtain ⟨hready, hrest⟩ := h
    obtain ⟨-, -, hen, -⟩ := id hready
    obtain rfl : s.mainPC = n := (enabledIn_micro hi).1 hen
    have hstep : step s = .next (effect i s) := (step_of_micro hschedule hi).trans (exec_of_ready hs hready)
    rw [List.length_cons, run_succ_of_next hstep]
    exact ih (effect_inRange i hs) ((effect_schedule i s).trans hschedule) his hrest

/-! ### Sequences in parts, and what they keep -/

theorem effects_append (is js : List Instr) (s : State) : effects (is ++ js) s = effects js (effects is s) :=
  List.foldl_append

theorem allReady_append {is js : List Instr} {s : State} :
    allReady (is ++ js) s ↔ allReady is s ∧ allReady js (effects is s) := by
  induction is generalizing s with
  | nil => exact (iff_of_eq (true_and _)).symm
  | cons i is ih => exact (and_congr_right fun _ => ih).trans and_assoc.symm

/-- A register that no operation of the sequence writes is kept. -/
theorem effects_keep {α : Type} {reg : State → α} {is : List Instr} (h : ∀ i ∈ is, Keeps reg i) (s : State) :
    reg (effects is s) = reg s := by
  induction is generalizing s with
  | nil => rfl
  | cons i is ih =>
    obtain ⟨hi, his⟩ := List.forall_mem_cons.1 h
    exact (ih his (effect i s)).trans (hi s)

theorem effects_digitsCoherent {is : List Instr} {s : State} (hready : allReady is s) (h : s.digitsCoherent) :
    (effects is s).digitsCoherent := by
  induction is generalizing s with
  | nil => exact h
  | cons i is ih =>
    obtain ⟨⟨-, -, hen, -⟩, hrest⟩ := hready
    exact ih hrest (effect_digitsCoherent hen h)

/-! ### One iteration in three parts -/

/-- The part before the mode's own substep (R115 to R117). -/
abbrev iterationStart : List Instr := [.mPoll, .mPress, .mSelect]

/-- The decomposition (R131 to R134). -/
abbrev iterationDigits : List Instr := [.mDig0, .mDig1, .mDig2, .mDig3]

theorem length_mainIterTrace (m : Mode) : (mainIterTrace m).length = iterationLength m := by cases m <;> rfl

theorem mainIterTrace_micro (m : Mode) : ∀ i ∈ mainIterTrace m, ∃ n, agentClass i = .micro n := by
  cases m <;> simp [mainIterTrace, substepOf, agentClass]

theorem mainIterTrace_eq (m : Mode) :
    mainIterTrace m = iterationStart ++ (substepOf m ++ .mTrans :: iterationDigits) := by cases m <;> rfl

theorem effects_iterationStart (s : State) : effects iterationStart s = { s with
    btnPrev := s.btnCur
    btnCur := decide (s.modePin = false)
    te := decide (s.btnCur = false ∧ s.modePin = false)
    pressCount := if s.btnCur = false ∧ s.modePin = false then nextPress s.pressCount else s.pressCount
    displayValue := s.valueSource
    mainPC := afterSelect s.mode } := by
  simp [effects, effect_mPoll, effect_mPress, effect_mSelect, State.valueSource]

theorem allReady_iterationStart {s : State} (hpc : s.mainPC = 0#4) : allReady iterationStart s :=
  ⟨.micro rfl hpc, .micro rfl rfl, .micro rfl rfl, trivial⟩

/-- What the substeps leave to the rest of the iteration. -/
theorem substepOf_keeps {m : Mode} {i : Instr} (hi : i ∈ substepOf m) :
    Keeps State.mode i ∧ Keeps State.pressCount i ∧ Keeps State.displayValue i := by
  have hother : ∀ m, ∀ i ∈ substepOf m, i ≠ .mTrans ∧ i ≠ .mPress ∧ i ≠ .mSelect := by
    intro m
    cases m <;> decide
  obtain ⟨htrans, hpress, hselect⟩ := hother m i hi
  have own := owners i
  exact ⟨own.mode.resolve_right htrans, own.pressCount.resolve_right hpress, own.displayValue.resolve_right hselect⟩

/-- Each mode's substep runs from the successor of M.SELECT to M.TRANS (R113). -/
theorem allReady_substepOf {m : Mode} {s : State} (hs : s.inRange = true) (hpc : s.mainPC = afterSelect m) :
    allReady (substepOf m) s ∧ (effects (substepOf m) s).mainPC = 11#4 := by
  have hscan := scanIndex_le_of_inRange hs
  cases m
  case auto => exact ⟨⟨.micro rfl hpc, .micro rfl rfl, .micro rfl rfl, trivial⟩, rfl⟩
  case increase => exact ⟨trivial, hpc⟩
  case decrease => exact ⟨trivial, hpc⟩
  case analog =>
    exact ⟨⟨.micro rfl hpc, .micro rfl rfl, .mAnaWr rfl hscan, .micro rfl rfl, .micro rfl rfl, trivial⟩, rfl⟩

/-- Where the iteration stands at M.TRANS: the press is counted and the value copied, and no digit counts as recomputed. -/
theorem iteration_at_trans {s : State} (hs : s.inRange = true) (hpc : s.mainPC = 0#4) :
    ∃ v, effects (iterationStart ++ substepOf s.mode) s = v ∧ allReady (iterationStart ++ substepOf s.mode) s
      ∧ v.mainPC = 11#4 ∧ v.mode = s.mode ∧ v.displayValue = s.valueSource ∧ v.digitsCoherent
      ∧ v.pressCount = if s.btnCur = false ∧ s.modePin = false then nextPress s.pressCount else s.pressCount := by
  have hstart := effects_iterationStart s
  have hselected : (effects iterationStart s).mainPC = afterSelect s.mode := by rw [hstart]
  obtain ⟨hready, hpc'⟩ := allReady_substepOf (effects_inRange iterationStart hs) hselected
  have hstale : (effects iterationStart s).digitsCoherent := fun k hk =>
    absurd (hselected ▸ hk) (not_recomputed_afterSelect s.mode k)
  rw [effects_append]
  refine ⟨_, rfl, allReady_append.2 ⟨allReady_iterationStart hpc, hready⟩, hpc', ?_, ?_,
    effects_digitsCoherent hready hstale, ?_⟩
  · rw [effects_keep (fun i hi => (substepOf_keeps hi).1), hstart]
  · rw [effects_keep (fun i hi => (substepOf_keeps hi).2.2), hstart]
  · rw [effects_keep (fun i hi => (substepOf_keeps hi).2.1), hstart]

theorem allReady_trans_digits {s : State} (hpc : s.mainPC = 11#4) : allReady (.mTrans :: iterationDigits) s :=
  ⟨.micro rfl hpc, .micro rfl rfl, .micro rfl rfl, .micro rfl rfl, .micro rfl rfl, trivial⟩

/-- After M.TRANS the iteration writes the digits and MainPC only. -/
theorem exists_effects_trans_digits (s : State) : ∃ ds, effects (.mTrans :: iterationDigits) s =
    { s.transition with digits := ds, mainPC := 0#4 } := by
  simp only [effects, List.foldl_cons, List.foldl_nil, effect, State.writeDigit, State.goto]
  exact ⟨_, rfl⟩

/-- In lockstep or one ahead, PressCount is the number of the mode again after the transition (R36). -/
theorem transition_code {s : State} (h : s.pressCount = s.mode.code ∨ s.pressCount = s.mode.code + 1#2) :
    s.transition.mode.code = s.pressCount := by
  rw [transition_eq]
  dsimp only
  split
  · next ahead => rw [ahead, Mode.code_next]
  · next level => exact (h.resolve_right level).symm

/-- The entry actions, by the modes before and after the transition (R127, R129, R130). -/
theorem transition_entry (s : State) :
    (s.mode = .analog → s.transition.mode = .auto → s.transition.autoCounter = 0#8)
      ∧ (s.mode = .auto → s.transition.mode = .increase →
        s.transition.incEnabled = true ∧ s.transition.decEnabled = true)
      ∧ (s.mode = .decrease → s.transition.mode = .analog → s.transition.adcEnabled = true) := by
  rcases transition_cases s with
    ⟨hmode, -, h⟩ | ⟨hmode, -, h⟩ | ⟨hmode, -, h⟩ | ⟨hmode, -, h⟩ | ⟨-, h⟩ <;> rw [h]
  pick_goal 5
  · refine ⟨fun hmode hnext => ?_, fun hmode hnext => ?_, fun hmode hnext => ?_⟩ <;> cases hmode.symm.trans hnext
  all_goals simp [hmode]

/-- Settles O43: the three parts of the iteration; the digits are coherent from M.SELECT on. -/
theorem mainIterationAdvancesTheModeCycle : Obligations.MainIterationAdvancesTheModeCycle := by
  intro s hs hschedule hpc hcount
  obtain ⟨v, hv, hbefore, hvpc, hvmode, hvvalue, hvdigits, hvcount⟩ := iteration_at_trans hs hpc
  have hafter := allReady_trans_digits hvpc
  have htrace : mainIterTrace s.mode = (iterationStart ++ substepOf s.mode) ++ .mTrans :: iterationDigits := by
    rw [mainIterTrace_eq, List.append_assoc]
  have hrun := run_of_allReady hs hschedule (mainIterTrace_micro s.mode)
    (htrace ▸ allReady_append.2 ⟨hbefore, hv ▸ hafter⟩)
  rw [length_mainIterTrace, htrace, effects_append, hv] at hrun
  obtain ⟨ds, hend⟩ := exists_effects_trans_digits v
  have hdigits := effects_digitsCoherent hafter hvdigits
  rw [hend] at hrun hdigits
  rw [nextPress_eq, hcount, ← hvmode] at hvcount
  have hlock : v.pressCount = v.mode.code ∨ v.pressCount = v.mode.code + 1#2 := by
    rw [hvcount]
    split
    · exact .inr rfl
    · exact .inl rfl
  have hcycle : v.transition.mode.code = v.pressCount := transition_code hlock
  have hcounted : v.transition.pressCount = v.pressCount := by rw [transition_eq]
  have hvalue : v.transition.displayValue = v.displayValue := by rw [transition_eq]
  obtain ⟨hauto, hedges, hadc⟩ := transition_entry v
  rw [hvmode] at hauto hedges hadc hvcount
  exact ⟨_, hrun, rfl, hcycle.trans hvcount, hcounted.trans hcycle.symm, hauto, hedges, hadc, hvalue.trans hvvalue,
    fun k => hdigits k (.inl (Nat.zero_le 2))⟩

end Sys2Proof.Machine

/-! ## The Auto cadence (R118 to R120, R174) -/

namespace Sys2Proof.Machine

/-! ### What every micro-step keeps, a run of the main loop keeps -/

/-- A property of states that every micro-step in its turn carries from index j to index j + 1 is carried by k of them from
j to j + k; the index may count the micro-steps done. -/
theorem exists_runMain {P : Nat → State → Prop} (hsound : ∀ {j s}, P j s → s.mainLoopSound)
    (hschedule : ∀ {j s}, P j s → P j { s with schedule := [] })
    (hmicro : ∀ {j s i}, agentClass i = .micro s.mainPC → P j s → P (j + 1) (effect i s)) (k : Nat) {j : Nat} {s : State}
    (h : P j s) : ∃ t, runMain k s = some t ∧ P (j + k) t := by
  have hrun (k : Nat) : ∀ {j s}, s.schedule = [] → P j s →
      ∃ t, Host.Core.run Sys2Proof.core k s = .next t ∧ P (j + k) t := by
    induction k with
    | zero => exact fun {_ s} _ h => ⟨s, rfl, h⟩
    | succ k ih =>
      intro j s hempty h
      obtain ⟨i, -, hi⟩ := exists_decode_micro s.mainPC
      obtain ⟨hs, -, -, hti, -⟩ := hsound h
      have hstep : step s = .next (effect i s) := (step_of_micro hempty hi).trans
        (exec_of_micro hi hs rfl fun hwr => hti (by subst hwr; exact (AgentClass.micro.inj hi).symm))
      obtain ⟨t, ht, hP⟩ := ih ((effect_schedule i s).trans hempty) (hmicro hi h)
      exact ⟨t, (run_succ_of_next hstep).trans ht, by rwa [Nat.add_assoc, Nat.add_comm 1] at hP⟩
  obtain ⟨t, ht, hP⟩ := hrun k rfl (hschedule h)
  exact ⟨t, by rw [runMain, ht], hP⟩

theorem effect_mainLoopSound {i : Instr} {s : State} (hen : enabledIn i s = true) (h : s.mainLoopSound) :
    (effect i s).mainLoopSound := by
  obtain ⟨hs, hlock, hsub, htemps⟩ := h
  exact ⟨effect_inRange i hs, effect_lockstep hen hlock, effect_substepInMode hen hsub, effect_tempsInRange hs hen htemps⟩

/-! ### Auto mode with the button released -/

/-- The main loop is in Auto mode, its button is released and no press is on its way; the timer runs. -/
structure AutoIdle (s : State) : Prop where
  sound : s.mainLoopSound
  mode : s.mode = .auto
  pressCount : s.pressCount = 0#2
  released : s.modePin = true
  noEdge : s.mainPC = 1#4 → s.te = false
  running : s.timerRunning = true

section
variable {s : State} (h : AutoIdle s)
include h

theorem AutoIdle.inRange : s.inRange = true := by
  obtain ⟨hs, -⟩ := h.sound
  exact hs

/-- With PressCount at 0 M.TRANS finds Auto's threshold not met (R127). -/
theorem AutoIdle.transition_eq_self : s.transition = s := by
  rw [State.transition, h.mode, h.pressCount]
  rfl

/-- A micro-step in its turn leaves Auto mode idle. -/
theorem AutoIdle.effect_micro {i : Instr} (hi : agentClass i = .micro s.mainPC) : AutoIdle (effect i s) := by
  have own := owners i
  have hen : enabledIn i s = true := (enabledIn_micro hi).2 rfl
  refine ⟨effect_mainLoopSound hen h.sound, ?mode, ?count, (effect_modePin_of_micro hi s).trans h.released, ?edge,
    (effect_timerRunning_of_micro hi s).trans h.running⟩
  case mode =>
    rcases own.mode with hk | rfl
    · exact (hk s).trans h.mode
    · simp only [effect, State.goto_mode, h.transition_eq_self, h.mode]
  case count =>
    rcases own.pressCount with hk | rfl
    · exact (hk s).trans h.pressCount
    · have hte := h.noEdge (AgentClass.micro.inj hi).symm
      simp [effect_mPress, hte, h.pressCount]
  case edge =>
    intro hpc
    have hbefore : ∀ p, successor p .auto = 1#4 → p = 0#4 := by decide
    rw [effect_mainPC_of_micro s hi, h.mode] at hpc
    obtain rfl : i = .mPoll := micro_unique (hbefore _ hpc ▸ hi) rfl
    simp [effect_mPoll, h.released]

end

/-! ### Positions in the iteration -/

/-- MainPC after j micro-steps of an Auto iteration (R113). -/
def autoPosition (j : Nat) : BitVec 4 := (successor · .auto)^[j] 0#4

theorem autoPosition_succ (j : Nat) : autoPosition (j + 1) = successor (autoPosition j) .auto :=
  Function.iterate_succ_apply' _ _ _

/-- The iteration has eleven micro-steps. -/
theorem autoPosition_add_of_dvd {j : Nat} (hj : iterationLength .auto ∣ j) (k : Nat) :
    autoPosition (j + k) = autoPosition k := by
  have hperiod : Function.IsPeriodicPt (successor · .auto) (iterationLength .auto) 0#4 := rfl
  rw [autoPosition, Nat.add_comm, Function.iterate_add_apply, (hperiod.trans_dvd hj).eq]
  rfl

theorem autoPosition_eq_zero {j : Nat} (hj : iterationLength .auto ∣ j) : autoPosition j = 0#4 :=
  autoPosition_add_of_dvd hj 0

/-! ### The ticks accounted for -/

/-- The five ticks of a step that M.AUTO.CLR has cleared and M.AUTO.ADV has yet to count. -/
def ticksInTransit (s : State) : Nat := if s.mainPC = 5#4 ∧ s.tc = true then 5 else 0

theorem ticksInTransit_of_ne {s : State} (h : s.mainPC ≠ 5#4) : ticksInTransit s = 0 := if_neg fun hpc => h hpc.1

/-- n ticks are accounted for, five to a step of AutoCounter, modulo the 800 of its whole range; the threshold is not
passed, and t.c stands for a clear only where there are five ticks to clear. -/
structure Counted (n : Nat) (s : State) : Prop where
  total : (5 * s.autoCounter.toNat + s.tickCount + ticksInTransit s) % 800 = n % 800
  le_five : s.tickCount ≤ 5
  due : s.mainPC = 4#4 → s.tc = true → s.tickCount = 5

/-- Up to 5 both readings of TICK_CMP say the same (R118). -/
theorem thresholdReached_iff (c : TickCmp) {n : Nat} (hn : n ≤ 5) : thresholdReached c n = true ↔ n = 5 := by
  cases c
  · simp [thresholdReached_eq]
  · simp only [thresholdReached_ge, decide_eq_true_eq]
    omega

section
variable {n : Nat} {s : State} (hcount : Counted n s)
include hcount

theorem Counted.compare (hpc : s.mainPC = 3#4) : Counted n (effect .mAutoCmp s) := by
  have htotal := hcount.total
  rw [ticksInTransit_of_ne (by rw [hpc]; decide)] at htotal
  exact ⟨htotal, hcount.le_five, fun _ htc => (thresholdReached_iff _ hcount.le_five).1 htc⟩

theorem Counted.clear (hpc : s.mainPC = 4#4) : Counted n (effect .mAutoClr s) := by
  have htotal := hcount.total
  rw [ticksInTransit_of_ne (by rw [hpc]; decide)] at htotal
  cases htc : s.tc
  · refine ⟨?_, ?_, fun h4 => absurd h4 (by simp [effect_mAutoClr])⟩
    · simpa [effect_mAutoClr, ticksInTransit, htc] using htotal
    · simpa [effect_mAutoClr, htc] using hcount.le_five
  · rw [hcount.due hpc htc] at htotal
    refine ⟨?_, ?_, fun h4 => absurd h4 (by simp [effect_mAutoClr])⟩
    · simpa [effect_mAutoClr, ticksInTransit, htc] using htotal
    · simp [effect_mAutoClr, htc]

theorem Counted.advance (hpc : s.mainPC = 5#4) : Counted n (effect .mAutoAdv s) := by
  have htotal := hcount.total
  refine ⟨?_, hcount.le_five, fun h4 => absurd h4 (by simp [effect_mAutoAdv])⟩
  rw [ticksInTransit_of_ne (by simp [effect_mAutoAdv])]
  cases htc : s.tc
  · simpa [effect_mAutoAdv, ticksInTransit, htc] using htotal
  · simp only [ticksInTransit, hpc, htc, and_self, if_true] at htotal
    simp only [effect_mAutoAdv, htc, if_true, nextAuto_toNat]
    omega

/-- Every other micro-step leaves the two counters alone, and neither enters nor leaves the positions where t.c is read. -/
theorem Counted.other {i : Instr} (hidle : AutoIdle s) (hi : agentClass i = .micro s.mainPC) (hcmp : i ≠ .mAutoCmp)
    (hclr : i ≠ .mAutoClr) (hadv : i ≠ .mAutoAdv) : Counted n (effect i s) := by
  have own := owners i
  have hauto : (effect i s).autoCounter = s.autoCounter := by
    rcases own.autoCounter with hk | rfl | rfl
    · exact hk s
    · exact absurd rfl hadv
    · simp only [effect, State.goto_autoCounter, hidle.transition_eq_self]
  have htick : (effect i s).tickCount = s.tickCount := by
    rcases own.tickCount with hk | rfl | rfl
    · exact hk s
    · cases hi
    · exact absurd rfl hclr
  have hplace : ∀ p, p ≠ 3#4 → p ≠ 4#4 → successor p .auto ≠ 4#4 ∧ successor p .auto ≠ 5#4 := by decide
  obtain ⟨hnot4, hnot5⟩ := hplace s.mainPC (fun h3 => hcmp (micro_unique (h3 ▸ hi) rfl))
    (fun h4 => hclr (micro_unique (h4 ▸ hi) rfl))
  rw [← hidle.mode, ← effect_mainPC_of_micro s hi] at hnot4 hnot5
  have hpc : s.mainPC ≠ 5#4 := fun h5 => hadv (micro_unique (h5 ▸ hi) rfl)
  refine ⟨?_, htick.trans_le hcount.le_five, fun h4 => absurd h4 hnot4⟩
  rw [hauto, htick, ticksInTransit_of_ne hnot5, ← ticksInTransit_of_ne hpc]
  exact hcount.total

/-- No micro-step in its turn gains or loses a tick. -/
theorem Counted.effect_micro {i : Instr} (hidle : AutoIdle s) (hi : agentClass i = .micro s.mainPC) :
    Counted n (effect i s) := by
  by_cases hcmp : i = .mAutoCmp
  · subst hcmp
    exact hcount.compare (AgentClass.micro.inj hi).symm
  by_cases hclr : i = .mAutoClr
  · subst hclr
    exact hcount.clear (AgentClass.micro.inj hi).symm
  by_cases hadv : i = .mAutoAdv
  · subst hadv
    exact hcount.advance (AgentClass.micro.inj hi).symm
  · exact hcount.other hidle hi hcmp hclr hadv

/-- ISR.TICK adds one tick, if there is none to clear yet (R91). -/
theorem Counted.effect_isrTick (hlt : s.tickCount < 5) : Counted (n + 1) (effect .isrTick s) := by
  have htick : (effect .isrTick s).tickCount = s.tickCount + 1 := nextTick_of_lt (n := s.tickCount) s.cfg (by omega)
  have htotal := hcount.total
  have htransit : ticksInTransit (effect .isrTick s) = ticksInTransit s := rfl
  refine ⟨?_, by omega, fun h4 htc => absurd (hcount.due h4 htc) (by omega)⟩
  rw [htick, htransit, show (effect .isrTick s).autoCounter = s.autoCounter from rfl]
  omega

end

/-! ### Rounds -/

/-- n ticks are accounted for, and the main loop is j micro-steps past the start of an iteration. -/
structure Cadence (n j : Nat) (s : State) : Prop where
  idle : AutoIdle s
  position : s.mainPC = autoPosition j
  counted : Counted n s

section
variable {n j : Nat} {s : State} (h : Cadence n j s)
include h

/-- The schedule and the tick's flag say nothing about the ticks accounted for. -/
theorem Cadence.with_unread (schedule : List EventWord) (pend : Bool) :
    Cadence n j { s with schedule := schedule, pendTick := pend } := by
  obtain ⟨⟨hsound, hmode, hpress, hpin, hedge, hrun⟩, hpos, ⟨htotal, hle, hdue⟩⟩ := h
  exact ⟨⟨hsound, hmode, hpress, hpin, hedge, hrun⟩, hpos, ⟨htotal, hle, hdue⟩⟩

theorem Cadence.effect_micro {i : Instr} (hi : agentClass i = .micro s.mainPC) : Cadence n (j + 1) (effect i s) := by
  refine ⟨h.idle.effect_micro hi, ?_, h.counted.effect_micro h.idle hi⟩
  rw [effect_mainPC_of_micro s hi, h.idle.mode, h.position, autoPosition_succ]

theorem Cadence.effect_isrTick (hpend : s.pendTick = true) (hlt : s.tickCount < 5) :
    Cadence (n + 1) j (effect .isrTick s) := by
  obtain ⟨hsound, hmode, hpress, hpin, hedge, hrun⟩ := h.idle
  exact ⟨⟨effect_mainLoopSound hpend hsound, hmode, hpress, hpin, hedge, hrun⟩, h.position, h.counted.effect_isrTick hlt⟩

/-- Whole iterations do not count. -/
theorem Cadence.restart (hj : iterationLength .auto ∣ j) : Cadence n 0 s :=
  ⟨h.idle, h.position.trans (autoPosition_eq_zero hj), h.counted⟩

end

/-- A micro-step can only clear TickCount (R119). -/
theorem effect_tickCount_of_micro {i : Instr} {n : BitVec 4} (hi : agentClass i = .micro n) (s : State) :
    (effect i s).tickCount = s.tickCount ∨ (effect i s).tickCount = 0 := by
  rcases (owners i).tickCount with hk | rfl | rfl
  · exact .inl (hk s)
  · cases hi
  · rw [effect_mAutoClr]
    cases s.tc <;> simp

/-- Below the threshold the main loop leaves TickCount there, however far it runs. -/
theorem exists_runMain_below {n j : Nat} {s : State} (h : Cadence n j s) (hlt : s.tickCount < 5) (k : Nat) :
    ∃ t, runMain k s = some t ∧ Cadence n (j + k) t ∧ t.tickCount < 5 ∧ t.pendTick = s.pendTick := by
  refine exists_runMain (P := fun j t => Cadence n j t ∧ t.tickCount < 5 ∧ t.pendTick = s.pendTick)
    (fun h => h.1.idle.sound) (fun ⟨h, hlt, hpend⟩ => ⟨h.with_unread [] _, hlt, hpend⟩) ?_ k ⟨h, hlt, rfl⟩
  rintro j t i hi ⟨h, hlt, hpend⟩
  refine ⟨h.effect_micro hi, ?_, (effect_pending_of_micro hi t .tick).trans hpend⟩
  rcases effect_tickCount_of_micro hi t with hcount | hcount <;> omega

/-- From position j on, up to a start of an iteration at position f, and then through its clear: after M.AUTO.CMP five ticks
are marked to be cleared, after M.AUTO.CLR there are none. -/
structure Clearing (n f j : Nat) (s : State) : Prop where
  cadence : Cadence n j s
  marked : j = f + 4 → s.tickCount = 5 → s.tc = true
  cleared : f + 5 ≤ j → s.tickCount < 5

theorem Clearing.effect_micro {n f j : Nat} {s : State} {i : Instr} (hf : iterationLength .auto ∣ f)
    (h : Clearing n f j s) (hi : agentClass i = .micro s.mainPC) : Clearing n f (j + 1) (effect i s) := by
  obtain ⟨hcadence, hmarked, hcleared⟩ := h
  have hle := hcadence.counted.le_five
  refine ⟨hcadence.effect_micro hi, fun hj hfive => ?marked, fun hj => ?cleared⟩
  case marked =>
    have hpc : s.mainPC = 3#4 := by
      rw [hcadence.position, show j = f + 3 by omega, autoPosition_add_of_dvd hf]
      rfl
    obtain rfl : i = .mAutoCmp := micro_unique (hpc ▸ hi) rfl
    exact (thresholdReached_iff _ hle).2 hfive
  case cleared =>
    by_cases hnow : j = f + 4
    · have hpc : s.mainPC = 4#4 := by
        rw [hcadence.position, hnow, autoPosition_add_of_dvd hf]
        rfl
      obtain rfl : i = .mAutoClr := micro_unique (hpc ▸ hi) rfl
      rw [effect_mAutoClr]
      dsimp only
      split
      · decide
      · next htc => exact lt_of_le_of_ne hle fun hfive => htc (hmarked hnow hfive)
    · have := hcleared (by omega)
      rcases effect_tickCount_of_micro hi s with hcount | hcount <;> omega

/-- What a round asks for and leaves: n ticks accounted for at the start of an iteration, and none to clear. -/
def roundStart (n : Nat) (s : State) : Prop := Cadence n 0 s ∧ s.tickCount < 5

/-- The rest of a round finishes the iteration the dispatch fell into, and then runs whole ones. -/
theorem TickRound.exists_rest_eq (r : TickRound) : ∃ d, iterationLength .auto ∣ r.before + r.latency + d
    ∧ r.rest = d + iterationLength .auto * (r.more + 1) := by
  refine ⟨_, ?_, rfl⟩
  split
  · next hwhole => exact Nat.dvd_of_mod_eq_zero hwhole
  · simp only [iterationLength]
    omega

/-- After the dispatch the round completes the iteration it is in, and the next one clears what there is to clear. -/
theorem exists_runMain_rest {n : Nat} {s : State} (r : TickRound) (h : Cadence n (r.before + r.latency) s) :
    ∃ t, runMain r.rest s = some t ∧ roundStart n t := by
  obtain ⟨d, hf, hrest⟩ := r.exists_rest_eq
  obtain ⟨t, hrun, hcadence, -, hcleared⟩ := exists_runMain (P := Clearing n (r.before + r.latency + d))
    (fun h => h.cadence.idle.sound) (fun h => ⟨h.cadence.with_unread [] _, h.marked, h.cleared⟩)
    (fun hi h => h.effect_micro hf hi) r.rest (j := r.before + r.latency) (s := s) ⟨h, by omega, by omega⟩
  rw [hrest, ← Nat.add_assoc] at hcadence hcleared
  refine ⟨t, hrun, hcadence.restart ((Nat.dvd_add_right hf).2 (Nat.dvd_mul_right _ _)), hcleared ?_⟩
  simp only [iterationLength]
  omega

/-- One round accounts for one more tick. -/
theorem exists_tickRound {n : Nat} {s : State} (r : TickRound) (h : roundStart n s) :
    ∃ t, tickRounds [r] s = some t ∧ roundStart (n + 1) t := by
  obtain ⟨hstart, hlt⟩ := h
  obtain ⟨a, ha, hcadence, hlta, -⟩ := exists_runMain_below hstart hlt r.before
  have hmatch : execAll [.tmrMatch] a = some { a with pendTick := true } :=
    execAll_cons_next (exec_tmrMatch_of_running hcadence.idle.inRange hcadence.idle.running)
  obtain ⟨b, hb, hcadence', hltb, hpend⟩ := exists_runMain_below (hcadence.with_unread a.schedule true) hlta r.latency
  have hdispatch : execAll [.isrTick] b = some (effect .isrTick b) :=
    execAll_of_allReady hcadence'.idle.inRange ⟨.handler (x := .tick) hpend, trivial⟩
  rw [Nat.zero_add] at hcadence'
  obtain ⟨t, ht, hround⟩ := exists_runMain_rest r (hcadence'.effect_isrTick hpend hltb)
  refine ⟨t, ?_, hround⟩
  simp only [tickRounds, ha, hmatch, hb, hdispatch, ht, Option.bind_some]

theorem exists_tickRounds {n : Nat} {s : State} (rs : List TickRound) (h : roundStart n s) :
    ∃ t, tickRounds rs s = some t ∧ roundStart (n + rs.length) t := by
  induction rs generalizing n s with
  | nil => exact ⟨s, rfl, h⟩
  | cons r rs ih =>
    obtain ⟨u, hu, hround⟩ := exists_tickRound r h
    obtain ⟨t, ht, hrounds⟩ := ih hround
    refine ⟨t, ?_, by rwa [Nat.add_right_comm, Nat.add_assoc] at hrounds⟩
    rw [← List.singleton_append, tickRounds_append, hu]
    exact ht

/-- Settles O44: with fewer than five ticks left over, those accounted for determine both counters. -/
theorem autoCadenceUnderFastMainLoop : Obligations.AutoCadenceUnderFastMainLoop := by
  intro rounds s hs hpc hmode hpress hpin hrun hauto htick
  have hidle : AutoIdle s := ⟨mainLoopSound_of_start hs hpc hmode hpress, hmode, hpress, hpin, by simp [hpc], hrun⟩
  have hcounted : Counted 0 s := ⟨by simp [hauto, htick, ticksInTransit, hpc], by omega, by simp [hpc]⟩
  obtain ⟨t, ht, hcadence, hlt⟩ := exists_tickRounds rounds (n := 0) ⟨⟨hidle, hpc, hcounted⟩, by omega⟩
  have htpc : t.mainPC = 0#4 := hcadence.position
  obtain ⟨hrange, -⟩ := (inRange_iff t).1 hcadence.idle.inRange
  have htotal := hcadence.counted.total
  rw [ticksInTransit_of_ne (by rw [htpc]; decide), Nat.zero_add] at htotal
  exact ⟨t, ht, hcadence.idle.mode, htpc, by omega, by omega⟩

end Sys2Proof.Machine

/-! ## No failure path (R136) -/

namespace Sys2Proof.Machine

/-- What is not refused answers its effect, and RST answers the reset table. -/
theorem exec_ne_fault (i : Instr) (s : State) (r : Fault) : exec i s ≠ .fault r := by
  by_cases hi : i = .rst
  · subst hi
    simp [exec_rst_eq]
  · rw [exec_eq_answerOf hi, answerOf]
    cases refusalOf i s <;> simp

/-- Settles O6: a step is refused for its word, or answers as the operation of that word does. -/
theorem noStepFaults : Obligations.NoStepFaults := by
  intro s r
  rw [step_eq]
  cases decode s.fetch.1 with
  | none => simp
  | some i => exact exec_ne_fault i _ r

end Sys2Proof.Machine

/-! ## The sources stay armed (R22, R23, R144) -/

namespace Sys2Proof.Machine

/-- The sources a mode relies on: it is entered with them enabled (R22, R23, R127, R129). -/
def Mode.needs : Mode → List Source
  | .auto => []
  | .increase => [.inc, .dec]
  | .decrease => [.inc, .dec]
  | .analog => [.inc, .dec, .adc]

/-- The invariant by its sources: TICK apart, a source that is pending or that the mode relies on is enabled. -/
theorem sourcesArmed_iff (s : State) : s.sourcesArmed ↔
    ∀ x, x ≠ .tick → s.pending x = true ∨ x ∈ s.mode.needs → s.enabled x = true := by
  constructor
  · rintro ⟨hinc, hdec, hadc, hedges, hsampler⟩ x hx hreason
    cases x
    case tick => exact absurd rfl hx
    all_goals cases hm : s.mode <;> simp_all [State.pending, State.enabled, Mode.needs]
  · intro h
    refine ⟨fun hp => h .inc (by simp) (.inl hp), fun hp => h .dec (by simp) (.inl hp),
      fun hp => h .adc (by simp) (.inl hp), fun hm => ⟨h .inc (by simp) (.inr ?_), h .dec (by simp) (.inr ?_)⟩,
      fun hm => h .adc (by simp) (.inr ?_)⟩
    all_goals cases hmode : s.mode <;> simp_all [Mode.needs]

section
variable {i : Instr} {s : State} {x : Source}

/-- An event at its own source sets a flag only while that source is enabled (R138 to R141). -/
theorem pending_or_enabled_of_latch {event : Bool} (h : (s.latch x event).pending x = true) :
    s.pending x = true ∨ s.enabled x = true := by
  rcases latch_cases s x event with ⟨-, hen, -⟩ | ⟨-, hlatch⟩
  exacts [.inr hen, .inl (hlatch ▸ h)]

theorem pending_or_enabled_of_complete {sample : Byte} (h : (s.complete sample).pending .adc = true) :
    s.pending .adc = true ∨ s.enabled .adc = true := by
  rcases complete_cases s sample with ⟨hen, -⟩ | ⟨-, hcomplete⟩
  exacts [.inr hen, .inl (hcomplete ▸ h)]

/-- A flag that is set after an operation was set before it, or its source was enabled (R144). -/
theorem pending_or_enabled_of_effect (h : (effect i s).pending x = true) : s.pending x = true ∨ s.enabled x = true := by
  have own := owners i
  cases x
  case tick =>
    rcases own.pendTick with hk | rfl | rfl
    exacts [.inl ((hk s).symm.trans h), pending_or_enabled_of_latch h, nomatch h]
  case inc =>
    rcases own.pendInc with hk | ⟨_, rfl⟩ | rfl
    exacts [.inl ((hk s).symm.trans h), pending_or_enabled_of_latch h, nomatch h]
  case dec =>
    rcases own.pendDec with hk | ⟨_, rfl⟩ | rfl
    exacts [.inl ((hk s).symm.trans h), pending_or_enabled_of_latch h, nomatch h]
  case adc =>
    rcases own.pendAdc with hk | ⟨_, rfl⟩ | rfl
    exacts [.inl ((hk s).symm.trans h), pending_or_enabled_of_complete h, nomatch h]

theorem transition_enabled (h : s.enabled x = true) : s.transition.enabled x = true := by
  rw [transition_eq]
  cases x <;> simp_all [State.enabled]

/-- Each row of the transition table enables what the mode it enters relies on beyond the mode it leaves (R127 to R130). -/
theorem transition_needs (h : x ∈ s.transition.mode.needs) : x ∈ s.mode.needs ∨ s.transition.enabled x = true := by
  rcases transition_cases s with ⟨hm, -, ht⟩ | ⟨hm, -, ht⟩ | ⟨hm, -, ht⟩ | ⟨hm, -, ht⟩ | ⟨-, ht⟩
  all_goals rw [ht] at h ⊢
  case inr.inr.inr.inr => exact .inl h
  all_goals cases x <;> simp_all [Mode.needs, State.enabled]

/-- TMR.STOP apart, no operation but RST clears an enable bit (R94, R104, R156). -/
theorem effect_enabled (hx : x ≠ .tick) (h : s.enabled x = true) : (effect i s).enabled x = true := by
  have own := owners i
  cases x
  case tick => exact absurd rfl hx
  case inc =>
    rcases own.incEnabled with hk | rfl | rfl
    exacts [(hk s).trans h, rfl, transition_enabled h]
  case dec =>
    rcases own.decEnabled with hk | rfl | rfl
    exacts [(hk s).trans h, rfl, transition_enabled h]
  case adc =>
    rcases own.adcEnabled with hk | rfl | rfl | rfl
    exacts [(hk s).trans h, rfl, rfl, transition_enabled h]

/-- A source that the mode relies on after an operation it relied on before, or the operation enabled it. -/
theorem needs_or_enabled_of_effect (h : x ∈ (effect i s).mode.needs) :
    x ∈ s.mode.needs ∨ (effect i s).enabled x = true := by
  rcases (owners i).mode with hk | rfl
  · exact .inl (hk s ▸ h)
  · exact transition_needs h

theorem effect_sourcesArmed (h : s.sourcesArmed) : (effect i s).sourcesArmed := by
  rw [sourcesArmed_iff] at h ⊢
  rintro x hx (hpend | hneed)
  · rcases pending_or_enabled_of_effect hpend with hold | hen
    exacts [effect_enabled hx (h x hx (.inl hold)), effect_enabled hx hen]
  · rcases needs_or_enabled_of_effect hneed with hold | hen
    exacts [effect_enabled hx (h x hx (.inr hold)), hen]

end

/-- Settles O47: RST clears flags, enables and mode, and elsewhere a flag and a mode only come with their enables. -/
theorem sourcesStayArmed : Obligations.SourcesStayArmed := by
  intro s t hs h
  exact step_preserves (P := State.sourcesArmed) (fun _ _ hs => hs)
    (fun s => by simp [State.sourcesArmed, afterRst, State.resetWith]) (fun _ _ _ _ hs => effect_sourcesArmed hs) hs h

end Sys2Proof.Machine

/-! ## The main loop never waits (R155, R159) -/

namespace Sys2Proof.Machine

/-- With nothing scheduled the main loop takes the micro-step in its turn; the invariant has t.i in range at M.ANA.WR. -/
theorem exists_step_of_mainLoopSound {s : State} (h : s.mainLoopSound) (hschedule : s.schedule = []) :
    ∃ i, agentClass i = .micro s.mainPC ∧ step s = .next (effect i s) := by
  obtain ⟨hs, -, -, hti, -⟩ := h
  obtain ⟨i, -, hclass⟩ := exists_decode_micro s.mainPC
  have hwr : i = .mAnaWr → s.ti.toNat ≤ 3 := by
    rintro rfl
    exact hti (AgentClass.micro.inj hclass).symm
  exact ⟨i, hclass, (step_of_micro hschedule hclass).trans (exec_of_micro hclass hs rfl hwr)⟩

/-- Settles O12: the micro-step MainPC names is never refused. -/
theorem mainLoopNeverWaits : Obligations.MainLoopNeverWaits := by
  intro s h hschedule
  obtain ⟨i, -, hstep⟩ := exists_step_of_mainLoopSound h hschedule
  exact ⟨_, hstep⟩

end Sys2Proof.Machine

/-! ## Taking an interrupt (R143 to R148) -/

namespace Sys2Proof.Machine

/-- What a handler writes beside the display: its own flag and its own register (R91, R98, R99, R106). -/
def serviceOwn (s : State) : Source → State
  | .tick => { s with pendTick := false, tickCount := nextTick s.cfg s.tickCount }
  | .inc => { s with pendInc := false, increaseCounter := satInc s.increaseCounter }
  | .dec => { s with pendDec := false, decreaseCounter := satDec s.decreaseCounter }
  | .adc => { s with pendAdc := false, analogReading := rescale s.cfg.rescale s.adcData }

/-- What a handler does to the display: one scan step, but for ISR.ADC, which leaves it alone (R106). -/
def serviceDisplay (s : State) : Source → State
  | .adc => s
  | _ => s.scanStep

theorem effect_handlerOf (x : Source) (s : State) :
    effect (handlerOf x) s = serviceOwn (serviceDisplay s x) x := by cases x <;> rfl

theorem pending_serviceOwn (x y : Source) (s : State) :
    (serviceOwn s x).pending y = if y = x then false else s.pending y := by
  cases x <;> cases y <;> rfl

theorem pending_serviceDisplay (x y : Source) (s : State) : (serviceDisplay s x).pending y = s.pending y := by
  cases x <;> cases y <;> rfl

/-- A handler clears its own flag and no other (R144). -/
theorem pending_effect_handlerOf (x y : Source) (s : State) :
    (effect (handlerOf x) s).pending y = if y = x then false else s.pending y := by
  rw [effect_handlerOf, pending_serviceOwn, pending_serviceDisplay]

/-- Settles O45: the dispatch tests the flag only, and the handler's record updates name no register of the main loop. -/
theorem handlersLeaveTheMainLoopAsItWas : Obligations.HandlersLeaveTheMainLoopAsItWas := by
  intro x s hs
  refine ⟨exec_handlerOf_of_not_pending hs, fun hpend => ⟨_, exec_handlerOf_of_pending hs hpend, ?_, fun y hy => ?_, ?_⟩⟩
  · rw [pending_effect_handlerOf, if_pos rfl]
  · rw [pending_effect_handlerOf, if_neg hy]
  · cases x <;> rfl

/-! ### Two pending handlers -/

theorem serviceOwn_comm (x y : Source) (s : State) : serviceOwn (serviceOwn s x) y = serviceOwn (serviceOwn s y) x := by
  cases x <;> cases y <;> rfl

/-- A scan step reads and writes nothing that a handler writes on its own. -/
theorem serviceDisplay_serviceOwn (x y : Source) (s : State) :
    serviceDisplay (serviceOwn s x) y = serviceOwn (serviceDisplay s y) x := by
  cases x <;> cases y <;> rfl

theorem serviceDisplay_comm (x y : Source) (s : State) :
    serviceDisplay (serviceDisplay s x) y = serviceDisplay (serviceDisplay s y) x := by
  cases x <;> cases y <;> rfl

/-- Handlers commute: each writes registers of its own, and the scan steps are the same whoever makes them (R143). -/
theorem effect_handlerOf_comm (x y : Source) (s : State) :
    effect (handlerOf y) (effect (handlerOf x) s) = effect (handlerOf x) (effect (handlerOf y) s) := by
  simp only [effect_handlerOf, serviceDisplay_serviceOwn]
  rw [serviceDisplay_comm, serviceOwn_comm]

section
variable {x y : Source} {s : State}

/-- Two pending handlers both run, as neither clears the other's flag. -/
theorem execAll_two_handlers (hne : x ≠ y) (hs : s.inRange = true) (hx : s.pending x = true) (hy : s.pending y = true) :
    execAll [handlerOf x, handlerOf y] s = some (effect (handlerOf y) (effect (handlerOf x) s)) := by
  have hstill : (effect (handlerOf x) s).pending y = true := by rwa [pending_effect_handlerOf, if_neg hne.symm]
  exact execAll_of_allReady hs ⟨.handler hx, .handler hstill, trivial⟩

/-- Two scanning handlers light the position of ScanIndex and the one after it, with the digits of s (R143). -/
theorem portTrace_scanHandlers (hx : x ≠ .adc) (hy : y ≠ .adc) :
    (effect (handlerOf y) (effect (handlerOf x) s)).portTrace = s.portTrace ++
      [(s.light s.scanIndex).displayPort, (s.light (nextPosition s.scanIndex)).displayPort] := by
  simp [hx, hy]

theorem scanIndex_scanHandlers (hx : x ≠ .adc) (hy : y ≠ .adc) :
    (effect (handlerOf y) (effect (handlerOf x) s)).scanIndex = nextPosition (nextPosition s.scanIndex) := by
  simp [hx, hy]

theorem handlerOf_mem_scanners (hx : x ≠ .adc) : handlerOf x ∈ scanners := by
  cases x <;> simp_all [handlerOf]

/-- ISR.ADC leaves the display as the scanning handler beside it left it (R106, R143). -/
theorem scanned_beside_isrAdc (hx : x ≠ .adc) (hs : s.inRange = true) :
    scanned s (effect (handlerOf .adc) (effect (handlerOf x) s)) :=
  effect_scanned (handlerOf_mem_scanners hx) hs

end

/-- Settles O46: the handlers commute, and what they light is read off the one order or, beside ISR.ADC, off either. -/
theorem pendingHandlersCommute : Obligations.PendingHandlersCommute := by
  intro x y s hne hs hx hy
  have hcomm := effect_handlerOf_comm x y s
  refine ⟨_, execAll_two_handlers hne hs hx hy, hcomm ▸ execAll_two_handlers hne.symm hs hy hx,
    fun hxscan hyscan => ?_, ?_⟩
  · have hsecond := shows_light s (nextPosition_le s.scanIndex)
    rw [nextPosition_toNat] at hsecond
    refine ⟨_, _, portTrace_scanHandlers hxscan hyscan, shows_light s (scanIndex_le_of_inRange hs), hsecond, ?_⟩
    rw [scanIndex_scanHandlers hxscan hyscan]
    exact nextPosition_iterate_toNat 2 (scanIndex_le_of_inRange hs)
  · rintro (rfl | rfl)
    · rw [hcomm]
      exact scanned_beside_isrAdc hne.symm hs
    · exact scanned_beside_isrAdc hne hs

end Sys2Proof.Machine

/-! ## Hazards between the agents (R164, R167) -/

namespace Sys2Proof.Machine

/-! ### A tick between the compare and the clear (R164) -/

/-- Both readings of TICK_CMP at once: under ge the compare also sees what lies beyond the threshold (R118). -/
theorem thresholdReached_iff_five_or_ge (c : TickCmp) (n : Nat) :
    thresholdReached c n = true ↔ n = 5 ∨ (c = .ge ∧ 5 ≤ n) := by
  cases c
  case eq => simp [thresholdReached_eq]
  case ge =>
    simp only [thresholdReached_ge, decide_eq_true_iff, true_and]
    omega

/-- A tick matched and dispatched just after the compare: the scan step is made and the tick is counted, but the clear and
the advance follow t.c, which the tick does not touch. -/
theorem execAll_autoSubstep_with_tick {s : State} {reached : Bool} (hs : s.inRange = true) (hpc : s.mainPC = 3#4)
    (hrun : s.timerRunning = true) (hreached : thresholdReached s.cfg.tickCmp s.tickCount = reached) :
    execAll [.mAutoCmp, .tmrMatch, .isrTick, .mAutoClr, .mAutoAdv] s = some { s.scanStep with
      tc := reached
      pendTick := false
      tickCount := if reached then 0 else nextTick s.cfg s.tickCount
      autoCounter := if reached then nextAuto s.autoCounter else s.autoCounter
      mainPC := 11#4 } := by
  have hmatch : effect .tmrMatch (effect .mAutoCmp s) = { effect .mAutoCmp s with pendTick := true } :=
    effect_tmrMatch_of_running hrun
  have hready : allReady [.mAutoCmp, .tmrMatch, .isrTick, .mAutoClr, .mAutoAdv] s := by
    refine ⟨.micro rfl hpc, .tmrMatch _, ?_⟩
    rw [hmatch]
    exact ⟨.handler (x := .tick) rfl, .micro rfl rfl, .micro rfl rfl, trivial⟩
  rw [execAll_of_allReady hs hready]
  simp only [effects, List.foldl_cons, List.foldl_nil, hmatch]
  rw [effect_mAutoCmp, hreached]
  simp only [effect_isrTick, effect_mAutoClr, effect_mAutoAdv, scanStep_eq]
  rfl

/-- Settles O23: with t.c at 1 the clear leaves 0 whatever the tick made of TickCount. -/
theorem tickBetweenCompareAndClearIsErased : Obligations.TickBetweenCompareAndClearIsErased := by
  intro s hs hpc hcount hrun
  have hreached := (thresholdReached_iff_five_or_ge s.cfg.tickCmp s.tickCount).2 hcount
  exact ⟨_, execAll_autoSubstep_with_tick hs hpc hrun hreached, rfl, nextAuto_toNat s.autoCounter, rfl⟩

/-! ### Events before one dispatch merge (R167) -/

theorem exec_adcEoc_of_enabled {s : State} {sample : Byte} (hs : s.inRange = true) (hen : s.adcEnabled = true) :
    exec (.adcEoc sample) s = .next { s with adcData := sample, pendAdc := true } := by
  rw [exec_adcEoc sample hs, complete_of_enabled sample hen]

section
variable {s : State} (hs : s.inRange = true)
include hs

/-- A press that makes an edge at an enabled source, or that finds the flag set, leaves it set (R95). -/
theorem exec_pinInc_press_pending (hpend : s.pendInc = true ∨ (s.incPin = true ∧ s.incEnabled = true)) :
    exec (.pinInc 0#8) s = .next { s with incPin := false, pendInc := true } := by
  rw [exec_pinInc_press hs, decide_eq_true hpend]

/-- Two presses with a release between them leave the line low and one flag set. -/
theorem execAll_two_incPresses (hen : s.incEnabled = true) (hpin : s.incPin = true) :
    execAll [.pinInc 0#8, .pinInc 1#8, .pinInc 0#8] s = some { s with incPin := false, pendInc := true } := by
  have hrelease : exec (.pinInc 1#8) { s with incPin := false, pendInc := true }
      = .next { s with incPin := true, pendInc := true } := exec_pinInc_release hs
  have hagain : exec (.pinInc 0#8) { s with incPin := true, pendInc := true }
      = .next { s with incPin := false, pendInc := true } := exec_pinInc_press_pending hs (.inl rfl)
  rw [execAll_cons_next (exec_pinInc_press_pending hs (.inr ⟨hpin, hen⟩)), execAll_cons_next hrelease,
    execAll_cons_next hagain, execAll_nil]

/-- As exec_pinInc_press_pending, on the decrease button's line (R96). -/
theorem exec_pinDec_press_pending (hpend : s.pendDec = true ∨ (s.decPin = true ∧ s.decEnabled = true)) :
    exec (.pinDec 0#8) s = .next { s with decPin := false, pendDec := true } := by
  rw [exec_pinDec_press hs, decide_eq_true hpend]

/-- As execAll_two_incPresses, on the decrease button's line. -/
theorem execAll_two_decPresses (hen : s.decEnabled = true) (hpin : s.decPin = true) :
    execAll [.pinDec 0#8, .pinDec 1#8, .pinDec 0#8] s = some { s with decPin := false, pendDec := true } := by
  have hrelease : exec (.pinDec 1#8) { s with decPin := false, pendDec := true }
      = .next { s with decPin := true, pendDec := true } := exec_pinDec_release hs
  have hagain : exec (.pinDec 0#8) { s with decPin := true, pendDec := true }
      = .next { s with decPin := false, pendDec := true } := exec_pinDec_press_pending hs (.inl rfl)
  rw [execAll_cons_next (exec_pinDec_press_pending hs (.inr ⟨hpin, hen⟩)), execAll_cons_next hrelease,
    execAll_cons_next hagain, execAll_nil]

/-- A second compare match finds the flag set (R88). -/
theorem execAll_two_matches (hrun : s.timerRunning = true) :
    execAll [.tmrMatch, .tmrMatch] s = some { s with pendTick := true } := by
  have hagain : exec .tmrMatch { s with pendTick := true } = .next { s with pendTick := true } :=
    exec_tmrMatch_of_running hs hrun
  rw [execAll_cons_next (exec_tmrMatch_of_running hs hrun), execAll_cons_next hagain, execAll_nil]

/-- The later of two samples overwrites the earlier one (R105). -/
theorem execAll_two_conversions (hen : s.adcEnabled = true) (first last : Byte) :
    execAll [.adcEoc first, .adcEoc last] s = some { s with adcData := last, pendAdc := true } := by
  have hlast : exec (.adcEoc last) { s with adcData := first, pendAdc := true }
      = .next { s with adcData := last, pendAdc := true } := exec_adcEoc_of_enabled hs hen
  rw [execAll_cons_next (exec_adcEoc_of_enabled hs hen), execAll_cons_next hlast, execAll_nil]

end

/-- However many events set a flag, one dispatch clears it: the handler runs once and is then refused (R144). -/
theorem dispatched_once {is : List Instr} {x : Source} {s u : State} (hevents : execAll is s = some u)
    (hu : u.inRange = true) (hpend : u.pending x = true) :
    execAll (is ++ [handlerOf x]) s = some (effect (handlerOf x) u)
      ∧ exec (handlerOf x) (effect (handlerOf x) u) = .refused (.handlerNotPending x) := by
  constructor
  · rw [execAll_append, hevents, Option.bind_some, execAll_cons_next (exec_handlerOf_of_pending hu hpend), execAll_nil]
  · exact exec_handlerOf_of_not_pending (effect_inRange _ hu) (by rw [pending_effect_handlerOf, if_pos rfl])

/-- Settles O29: the events leave one flag set, so the handler's effect is felt once, on the sample last written. -/
theorem pressesBeforeOneDispatchMerge : Obligations.PressesBeforeOneDispatchMerge := by
  intro s hs
  refine ⟨fun hen hpin => ?inc, fun hen hpin => ?dec, fun hrun => ?tick, fun hen first last => ?adc⟩
  case inc =>
    obtain ⟨hone, hrefused⟩ := dispatched_once (x := .inc) (execAll_two_incPresses hs hen hpin) hs rfl
    exact ⟨_, hone, satInc_toNat s.increaseCounter, hrefused⟩
  case dec =>
    obtain ⟨hone, hrefused⟩ := dispatched_once (x := .dec) (execAll_two_decPresses hs hen hpin) hs rfl
    exact ⟨_, hone, satDec_toInt s.decreaseCounter, hrefused⟩
  case tick =>
    obtain ⟨hone, hrefused⟩ := dispatched_once (x := .tick) (execAll_two_matches hs hrun) hs rfl
    exact ⟨_, hone, rfl, nextPosition_toNat s.scanIndex, hrefused⟩
  case adc =>
    obtain ⟨hone, hrefused⟩ := dispatched_once (x := .adc) (execAll_two_conversions hs hen first last) hs rfl
    exact ⟨_, hone, rfl, hrefused⟩

end Sys2Proof.Machine

/-! ## What only RST undoes (R156) -/

namespace Sys2Proof.Machine

/-- IncreaseCounter is counted up, and saturates at the end of its range (R98). -/
theorem le_effect_increaseCounter (i : Instr) {s : State} (hs : s.inRange = true) :
    s.increaseCounter.toNat ≤ (effect i s).increaseCounter.toNat := by
  rcases (owners i).increaseCounter with hkept | rfl
  · rw [hkept s]
  · obtain ⟨-, hrange, -⟩ := (inRange_iff s).1 hs
    rw [effect_isrInc, satInc_toNat]
    omega

/-- DecreaseCounter is counted down, and saturates at 0 (R99). -/
theorem effect_decreaseCounter_le_self (i : Instr) (s : State) :
    (effect i s).decreaseCounter.toNat ≤ s.decreaseCounter.toNat := by
  rcases (owners i).decreaseCounter with hkept | rfl
  · rw [hkept s]
  · rw [effect_isrDec, satDec_toNat]
    exact Nat.sub_le _ _

/-- Settles O48: RST answers the reset table with its drawn values, and every other operation its effect, which clears no
enable of a source but TICK and moves each of the two counters one way. -/
theorem rstRestoresTheResetTable : Obligations.RstRestoresTheResetTable := by
  refine ⟨rfl, fun s => ⟨_, _, _, _, _, _, exec_rst s⟩, fun i s t hi h => ?_⟩
  obtain ⟨hs, -, -, -, rfl⟩ := exec_next hi h
  exact ⟨effect_enabled (x := .inc) (by simp), effect_enabled (x := .dec) (by simp), effect_enabled (x := .adc) (by simp),
    le_effect_increaseCounter i hs, effect_decreaseCounter_le_self i s⟩

end Sys2Proof.Machine
